-- ==== Sys2Proof/Word.lean ====
section
/-! DEFINITION. The plain number types of the WZ-318 and the one named way of bringing a figure into its range (R2, R3). -/

namespace Sys2Proof

/-- One byte of a frame payload, of an argument or of an answer. -/
abbrev Byte := BitVec 8

/-- A station number of the driveline link, 0 to 15 (R1). -/
abbrev Station := Fin 16

/-- A 24-bit microsecond count, or a timestamp taken from it (R103). -/
abbrev Micros := BitVec 24

/-- A 32-bit round count, or an arrival stamp taken from it (R24). -/
abbrev Round := BitVec 32

/-- A figure brought to the nearest end of the range `lo` to `hi` (R3). -/
def bring (lo hi x : Int) : Int := if x < lo then lo else if hi < x then hi else x

/-- A figure of 0 or above brought to the nearest end of the range `lo` to `hi` (R3). -/
def bringNat (lo hi x : Nat) : Nat := if x < lo then lo else if hi < x then hi else x

end Sys2Proof
end

