-- ==== Sys2Proof/Syntax.lean ====
section
/-! DEFINITION. The commands the WZ-318 takes: one constructor for each row of spec/opcode_table.json, with what the outside supplies at it (a frame as it stood on the line, a pin level, the arguments of an exchange). -/

namespace Sys2Proof

/-- The strap pins, read when reset is released (R1). -/
structure Straps where
  /-- Station number, 0 to 15. -/
  station : Station
  /-- Role code, 0 to 7. -/
  role : BitVec 3
  deriving DecidableEq, Repr

/-- A frame as it stands on the line between start bit and acknowledge slot (R5). -/
structure Frame where
  /-- Kind code (2 bits), then the sender's station number (4 bits). -/
  precedence : BitVec 6
  /-- The length field. -/
  length : BitVec 4
  /-- The payload bytes in the order they are sent. -/
  payload : List Byte
  /-- The check field (R6). -/
  check : BitVec 16
  deriving DecidableEq, Repr

/-- The two command outputs (R115). -/
inductive OutName where
  | a | b
  deriving DecidableEq, Repr

/-- The two capture channels (R103). -/
inductive CapName where
  | c0 | c1
  deriving DecidableEq, Repr

/-- The two cease kinds (R7, R43). -/
inductive CeaseKind where
  | traction | link
  deriving DecidableEq, Repr

/-- Which part of one exchange of the local port a command stands for (R196, R197): the whole exchange with nothing taken between its answer point and its deselect, the assertion of select that opens it, its answer point alone, or its deselect alone. -/
inductive Moment where
  | whole | select | answer | deselect
  deriving DecidableEq, Repr

/-- The commands, one constructor per row of spec/opcode_table.json. `inputs` are the levels of the four discrete inputs as they stand when the command is taken; `level` is the level of an analogue input in µV above ground (notes/assumptions/10.md); `m` says which part of its exchange a local port command stands for. -/
inductive Instr where
  | powerOnReset (straps : Straps) (lines inputs : BitVec 4)
  | resetPin (straps : Straps) (lines inputs : BitVec 4)
  | ceaseFrameReceived (frame : Frame)
  | demandFrameReceived (frame : Frame) (inputs : BitVec 4)
  | stateFrameReceived (frame : Frame)
  | warnFrameReceived (frame : Frame)
  | frameDiscarded (frame : Frame)
  | stationClash (frame : Frame)
  | transmissionStart (rival : Option (BitVec 6))
  | transmissionSuccess
  | transmissionFailure
  | holdOffExpiry
  | ceaseRemainderExpiry
  | probeCountExpiry
  | boundaryTimerExpiry (inputs : BitVec 4)
  | stateEmission
  | recordForget (station : Station)
  | ceaseWindowClose (kind : CeaseKind)
  | shareCompletion (inputs : BitVec 4)
  | warnRefresh
  | listBudgetExpiry
  | holdTimeout (inputs : BitVec 4)
  | pauseEnd (inputs : BitVec 4)
  | pulseEnd (line : Fin 4)
  | noEntryListReady
  | noExitListStop
  | gensetStart (inputs : BitVec 4)
  | gensetStop (inputs : BitVec 4)
  | conversion (position : Fin 8) (level : Int)
  | measurementEvent
  | risingEdge (channel : CapName)
  | demodulationEdge (rising : Bool)
  | zeroSpeedExpiry (channel : CapName)
  | absenceTimerExpiry
  | periodEnd (output : OutName)
  | shutdownLineChange (line : Fin 4) (level : Bool)
  | shortExchange
  | unknownCommand (m : Moment) (code : Byte)
  | loadItem (m : Moment) (item : BitVec 16) (index : Byte) (value : BitVec 32)
  | loadStep (m : Moment) (index kind : Byte) (operands : BitVec 72)
  | restoreWear (m : Moment) (slot : Byte) (value : BitVec 32)
  | lock (m : Moment) (inputs : BitVec 4)
  | engage (m : Moment) (inputs : BitVec 4)
  | disengage (m : Moment) (inputs : BitVec 4)
  | clearFault (m : Moment)
  | shutdown (m : Moment) (on : Byte)
  | releaseOutput (m : Moment) (output : Byte)
  | setZone (m : Moment) (on : Byte)
  | setCharge (m : Moment) (charge : BitVec 32)
  | serviceReset (m : Moment) (slot : Byte)
  | readPeer (m : Moment) (station : Byte)
  | readShare (m : Moment)
  | readWear (m : Moment) (slot : Byte)
  | readStatus (m : Moment)
  | readSnapshot (m : Moment)
  | nextWarning (m : Moment)
  | readAttention (m : Moment)
  | setEnable (m : Moment) (mask : Byte)
  | clearEnable (m : Moment) (mask : Byte)
  | setPending (m : Moment) (mask : Byte)
  | clearPending (m : Moment) (mask : Byte)
  | master (m : Moment) (on : Byte)
  | restart (m : Moment) (inputs : BitVec 4)
  | lineIdle
  deriving DecidableEq, Repr

end Sys2Proof
end

