-- ==== Sys2Proof/Decode.lean ====
section
/-! DEFINITION. The command that a word spells by the opcode table's bits: none, since the table of this block gives no row any bits. And the command that the bytes of an exchange of the local port spell by the table of R198. -/

namespace Sys2Proof

/-- The command a word of the opcode table spells: none, since the table gives no row bits. -/
def decodeTableWord (_nbits _w : Nat) : Option Instr := none

/-! ## Exchanges of the local port (R196, R198, R199) -/

/-- The argument bytes that a command code fixes; a code that names no command has none (R196, R198). -/
def argumentSize (code : Nat) : Nat :=
  match code with
  | 1 => 7 | 2 => 11 | 3 => 5 | 8 => 1 | 9 => 1 | 10 => 1 | 11 => 4 | 12 => 1 | 13 => 1 | 15 => 1
  | 20 => 1 | 21 => 1 | 22 => 1 | 23 => 1 | 24 => 1
  | _ => 0

/-- Argument bytes as one number, most significant byte first (R198). -/
def argumentOf (bytes : List Byte) : Nat := bytes.foldl (fun n b => 256 * n + b.toNat) 0

/-- The command of a code with its argument, for the part `m` of its exchange; `inputs` are the levels of the discrete inputs (R198, R199). -/
def portCommand (m : Moment) (inputs : BitVec 4) (code : Byte) (n : Nat) : Instr :=
  match code.toNat with
  | 1 => .loadItem m (BitVec.ofNat 16 (n / 256 ^ 5)) (BitVec.ofNat 8 (n / 256 ^ 4)) (BitVec.ofNat 32 n)
  | 2 => .loadStep m (BitVec.ofNat 8 (n / 256 ^ 10)) (BitVec.ofNat 8 (n / 256 ^ 9)) (BitVec.ofNat 72 n)
  | 3 => .restoreWear m (BitVec.ofNat 8 (n / 256 ^ 4)) (BitVec.ofNat 32 n)
  | 4 => .lock m inputs
  | 5 => .engage m inputs
  | 6 => .disengage m inputs
  | 7 => .clearFault m
  | 8 => .shutdown m (BitVec.ofNat 8 n)
  | 9 => .releaseOutput m (BitVec.ofNat 8 n)
  | 10 => .setZone m (BitVec.ofNat 8 n)
  | 11 => .setCharge m (BitVec.ofNat 32 n)
  | 12 => .serviceReset m (BitVec.ofNat 8 n)
  | 13 => .readPeer m (BitVec.ofNat 8 n)
  | 14 => .readShare m
  | 15 => .readWear m (BitVec.ofNat 8 n)
  | 16 => .readStatus m
  | 17 => .readSnapshot m
  | 18 => .nextWarning m
  | 19 => .readAttention m
  | 20 => .setEnable m (BitVec.ofNat 8 n)
  | 21 => .clearEnable m (BitVec.ofNat 8 n)
  | 22 => .setPending m (BitVec.ofNat 8 n)
  | 23 => .clearPending m (BitVec.ofNat 8 n)
  | 24 => .master m (BitVec.ofNat 8 n)
  | 25 => .restart m inputs
  | _ => .unknownCommand m code

/-- The command that the bytes the host clocks in one select period spell: the code, then its arguments; a period that ends before its answer point is a short exchange, and bytes after the arguments are ignored (R196). -/
def exchangeCommand (inputs : BitVec 4) (bytes : List Byte) : Instr :=
  match bytes with
  | [] => .shortExchange
  | code :: rest =>
    if rest.length < argumentSize code.toNat then .shortExchange
    else portCommand .whole inputs code (argumentOf (rest.take (argumentSize code.toNat)))

end Sys2Proof
end

