-- ==== Sys2Proof/Config.lean ====
section
/-! DEFINITION. The fixed figures of the manual, and the one free value: the order of two happenings that the manual says may fall in either order inside one step. (Configuration ITEMS, which the host loads, are state: Machine/State.lean, `Items`.) -/

namespace Sys2Proof

/-- FREE VALUE (notes/assumptions/3.md). The manual says of three pairs of happenings inside one step that either may be taken first (R126, R136 and R194 with R200). The n-th such choice of a run is this value at n: it has no body, so no proof can lean on one order. -/
opaque Config.freeOrder : Nat → Bool

/-- Consecutive exhaustions that isolate the node (R19). -/
def Config.isolationStreak : Nat := 8

/-- Round boundaries from one probe to the next (R20). -/
def Config.probeInterval : Nat := 100

/-- Rounds after which a silent record is forgotten (R35). -/
def Config.forgetRounds : Nat := 250

/-- Steps carried out in one turn at the most (R87). -/
def Config.turnSteps : Nat := 8

/-- Return indices the stack holds at the most (R86, R93). -/
def Config.stackDepth : Nat := 4

/-- The 5 V supply of the analogue inputs, in µV (R98). -/
def Config.supplyLevel : Int := 5000000

/-- Equal steps between ground and the supply (R98). -/
def Config.countSteps : Int := 1024

/-- Timestamps a capture FIFO holds at the most (R105). -/
def Config.fifoDepth : Nat := 4

/-- Round boundaries from one WARN refresh to the next (R194). -/
def Config.refreshRounds : Nat := 100

/-- The longest segment of time that is accrued, in µs (R183). -/
def Config.longestSegment : Nat := 1000000

/-- The longest a share pass takes, in µs (R45). -/
def Config.passBound : Nat := 200

/-- The last value of the counters that stop there: 16 bits (R43, R69). -/
def Config.countTop : Nat := 65535

/-- The largest own shortfall part (R171). -/
def Config.shortfallTop : Nat := 12000

/-- The last value of a RISING wear record (R182, R184). -/
def Config.wearTop : Int := 4294967295

end Sys2Proof
end

