-- ==== Sys2Proof/Machine/State.lean ====
section
/-! DEFINITION. The state of the WZ-318, block by block, as plain data; the reasons a step can stop; the state right after reset. -/

namespace Sys2Proof.Machine

/-! ## Names of states, modes and kinds -/

/-- The strapped role (R1). Role codes 0, 6 and 7 are no role. -/
inductive Role where
  | none | demand | genset | pack | traction | friction
  deriving DecidableEq, Repr

/-- The role a role code names (R1). -/
def Role.ofCode (c : BitVec 4) : Role :=
  match c.toNat with
  | 1 => .demand
  | 2 => .genset
  | 3 => .pack
  | 4 => .traction
  | 5 => .friction
  | _ => .none

/-- Readiness states, coded 0 to 7 in this order (R7, R70). -/
inductive Readiness where
  | unconfigured | offline | standby | starting | ready | derated | stopping | faulted
  deriving DecidableEq, Repr

/-- Link Controller states (R21). -/
inductive LinkState where
  | silent | active | isolated | muted
  deriving DecidableEq, Repr

/-- Frame kinds, coded 0 to 3 in this order (R5). -/
inductive FrameKind where
  | cease | demand | state | warn
  deriving DecidableEq, Repr

/-- State of a wear record or warning source (R180, R191). -/
inductive Level where
  | clear | watch | alarm
  deriving DecidableEq, Repr

/-- A warning state as a WARN frame carries it (R7). -/
inductive WarnCode where
  | clear | watch | alarm | unused
  deriving DecidableEq, Repr

/-- The receiver's view of the line (R4): waiting for idle; idle, so that the next dominant bit is a start bit; or inside a frame. -/
inductive LineView where
  | waiting | idle | busy
  deriving DecidableEq, Repr

/-- The two step lists (R85). -/
inductive ListName where
  | entry | exit
  deriving DecidableEq, Repr

/-- Where STOPPING leads (R69). -/
inductive StopDest where
  | offline | standby
  deriving DecidableEq, Repr

/-- Source shutdown state of an output (R115). -/
inductive SourceState where
  | none | entryPending | automatic | latched
  deriving DecidableEq, Repr

/-- Pin mode of an output (R115). -/
inductive PinMode where
  | running | shutdown
  deriving DecidableEq, Repr

/-- Entry mode item of an output (R115). -/
inductive EntryMode where
  | immediate | atPeriodEnd
  deriving DecidableEq, Repr

/-- Shutdown state item of an output (R115, R120). -/
inductive ShutdownPin where
  | safeDuty | holdLow | release
  deriving DecidableEq, Repr

/-- Restart mode item of an output (R115). -/
inductive RestartMode where
  | automatic | latched
  deriving DecidableEq, Repr

/-- Capture modes (R104). -/
inductive CaptureMode where
  | everyEdge | every4th | every16th | demodulate
  deriving DecidableEq, Repr

/-- Speed forms (R107). -/
inductive SpeedForm where
  | rpm | vehicle
  deriving DecidableEq, Repr

/-- Wear kinds, coded from 0 in this order (R181, R199). -/
inductive WearKind where
  | runTime | starts | failedStarts | highLoadTime | coolantTemp | throughput | deepDischarges | hotTime | packTemp
  | driveEnergy | regenEnergy | motorTemp | liningEnergy | liningTemp | liningThickness | holdApplies | pedalDisagree | bothPedals
  deriving DecidableEq, Repr

/-- Directions of a wear kind (R180). -/
inductive Direction where
  | rising | levelHighBad | levelLowBad
  deriving DecidableEq, Repr

/-- The fourteen warning sources (R191). -/
inductive Source where
  | slot (i : Fin 12) | deficit | isolation
  deriving DecidableEq, Repr

/-- The six attention sources; bit numbers 0 to 5 in this order (R202, R205). -/
inductive Attn where
  | shutdown | share | wear | step | link | capture
  deriving DecidableEq, Repr

/-- The modes of a plan (R55). -/
inductive PlanMode where
  | traction | coast | braking
  deriving DecidableEq, Repr

/-- Fail causes of a step list (R94). -/
inductive FailCause where
  | end_ | budget | protected_ | timeout | stack | index
  deriving DecidableEq, Repr

/-- Verdict of the outcome record (R86, R94, R95). -/
inductive Verdict where
  | ready | failed | abandoned | running
  deriving DecidableEq, Repr

/-- What a round boundary was caused by (R28). -/
inductive BoundaryCause where
  | expiry | demandArrival
  deriving DecidableEq, Repr

/-- Reply codes of the local port (R197). -/
inductive Reply where
  | ok | clamped | empty | wrongState | locked | wrongRole | wrongKind | curveOrder | role | length | range
  deriving DecidableEq, Repr

/-! ## Steps (R85) -/

/-- A condition of HOLD or SKIP (R85). -/
inductive Condition where
  | channelAtLeast (channel : Fin 4) (threshold : Int)
  | channelAtMost (channel : Fin 4) (threshold : Int)
  | speedAtLeast (channel : CapName) (speed : Nat)
  | speedAtMost (channel : CapName) (speed : Nat)
  | inputHigh (input : Fin 4)
  | inputLow (input : Fin 4)
  | roundMatch (mask value : BitVec 16)
  deriving DecidableEq, Repr

/-- The target of a SET step with its value (R85, R88). -/
inductive SetTarget where
  | outputB (value : Nat)
  | lineOn (line : Fin 4)
  | lineOff (line : Fin 4)
  | outputA (value : Nat)
  | limitOverride (value : Nat)
  deriving DecidableEq, Repr

/-- One step of step memory (R85). A target index may lie above 63: it fails when the step is carried out (R93). -/
inductive Step where
  | set (target : SetTarget)
  | pulse (line : Fin 4) (length : Nat)
  | hold (condition : Condition) (timeout : Nat) (ignoreShutdown : Bool)
  | skip (condition : Condition)
  | pause (length : Nat)
  | call (target : Nat)
  | ret
  | jump (target : Nat)
  | end_ (ready : Bool)
  deriving DecidableEq, Repr

/-! ## Configuration items (R199) -/

/-- The sharing parameters (R53). -/
structure Sharing where
  x : Nat := 150
  rho : Nat := 850
  socLow : Nat := 350
  socTarget : Nat := 550
  socHigh : Nat := 750
  socCrit : Nat := 200
  kSoc : Nat := 4
  pEv : Nat := 800
  staleLimit : Nat := 3
  decayStep : Nat := 50
  brakeHold : Nat := 50
  distribution : Vector Nat 16 := Vector.ofFn fun _ => 0
  deriving DecidableEq, Repr

/-- One point of the derate curve (R82). -/
structure CurvePoint where
  x : Int := 0
  f : Nat := 0
  deriving DecidableEq, Repr

/-- Items of one analogue channel (R98, R99). -/
structure ChannelItems where
  offset : Int := 0
  gain : Int := 1024
  shift : Nat := 0
  deriving DecidableEq, Repr

/-- Items of one window monitor (R101). -/
structure MonitorItems where
  channel : Option (Fin 4) := Option.none
  low : Int := -32768
  high : Int := 32767
  count : Nat := 1
  deriving DecidableEq, Repr

/-- Items of one capture channel (R104, R107, R108). -/
structure CaptureItems where
  mode : CaptureMode := .everyEdge
  form : SpeedForm := .rpm
  pulsesPerRev : Nat := 1
  mmPerPulse : Nat := 1
  timeoutMs : Nat := 200
  deriving DecidableEq, Repr

/-- Items of one command output (R115). -/
structure OutputItems where
  period : Nat := 1000
  entry : EntryMode := .immediate
  shutdownPin : ShutdownPin := .holdLow
  safeDuty : Nat := 0
  restart : RestartMode := .automatic
  enable : BitVec 7 := 0
  deriving DecidableEq, Repr

/-- Items of one shutdown line (R118, R128). -/
structure LineItems where
  activeHigh : Bool := false
  cease : Option CeaseKind := Option.none
  duration : Nat := 100
  deriving DecidableEq, Repr

/-- Items of one discrete output line (R85, R130). -/
structure DiscreteItems where
  retrigger : Bool := false
  safeOn : Bool := false
  deriving DecidableEq, Repr

/-- The Demand Role's items (R135). -/
structure DemandItems where
  driveMax : Nat := 2000
  brakeMax : Nat := 2000
  deadband : Nat := 30
  threshold : Nat := 30
  tolerance : Nat := 50
  rampUp : Nat := 50
  stopSpeed : Nat := 20
  doorHigh : Bool := true
  deriving DecidableEq, Repr

/-- The traction role's items besides its rated figures (R165). -/
structure TractionItems where
  torqueMax : Nat := 1000
  rpmFloor : Nat := 100
  fadeSpeed : Nat := 300
  deriving DecidableEq, Repr

/-- The friction role's items besides its rated figure (R171). -/
structure FrictionItems where
  holdDuty : Nat := 500
  ambient : Int := 200
  heating : Nat := 200
  cooling : Nat := 87
  thickness0 : Nat := 0
  thickness1000 : Nat := 300
  deriving DecidableEq, Repr

/-- Every configuration item, at its default (R199 and the rules it names). Wear slot items stand in the slots (R180). -/
structure Items where
  /-- Retry limit: 2, 4, 16 or 64 (R16). -/
  retryLimit : Nat := 4
  /-- Hold-off in units of 64 µs (R18). -/
  holdOff : Nat := 2
  /-- Round period in ms (R24). -/
  period : Nat := 10
  sharing : Sharing := {}
  startRetries : Nat := 2
  minOn : Nat := 3000
  minOff : Nat := 500
  retryGap : Nat := 200
  autoEngage : Bool := false
  ratedA : Nat := 0
  ratedB : Nat := 0
  curveCount : Nat := 0
  curve : Vector CurvePoint 8 := Vector.ofFn fun _ => {}
  entryStart : Option (Fin 64) := Option.none
  exitStart : Option (Fin 64) := Option.none
  entryBudget : Nat := 1000
  exitBudget : Nat := 1000
  protectedTargets : Bool := false
  map : Vector (Option (Fin 4)) 8 := Vector.ofFn fun p => if h : p.val < 4 then some ⟨p.val, h⟩ else Option.none
  channels : Vector ChannelItems 4 := Vector.ofFn fun _ => {}
  monitors : Vector MonitorItems 2 := Vector.ofFn fun _ => {}
  capture0 : CaptureItems := {}
  capture1 : CaptureItems := {}
  /-- C1's nominal period in µs (R111). -/
  nominal : Nat := 10000
  outputA : OutputItems := {}
  outputB : OutputItems := {}
  dutyLo : Nat := 100
  dutyHi : Nat := 900
  lines : Vector LineItems 4 := Vector.ofFn fun _ => {}
  discretes : Vector DiscreteItems 4 := Vector.ofFn fun _ => {}
  demand : DemandItems := {}
  /-- The pack's capacity in Ah (R155). -/
  capacityAh : Nat := 100
  traction : TractionItems := {}
  friction : FrictionItems := {}
  /-- Group order, coded 0 to 5 (R204). -/
  groupOrder : Nat := 0
  /-- Within-group flags of groups A, B and C (R204). -/
  groupA : Bool := false
  groupB : Bool := false
  groupC : Bool := false
  deriving DecidableEq, Repr

/-! ## Pins -/

/-- The input pins as they stand: the straps sampled at reset (R1), the levels of the four shutdown lines (R118) and of the four discrete inputs, and the level in µV above ground at which each analogue input was last sampled (R98). -/
structure Pins where
  straps : Straps
  lines : BitVec 4
  inputs : BitVec 4
  analog : Vector Int 4
  deriving DecidableEq, Repr

/-! ## Link Controller (R14 to R23) -/

/-- One occupied outbox slot (R14, R16). -/
structure Slot where
  payload : List Byte
  retries : Nat
  /-- The STATE slot's note that its frame is a probe (R14, R20). -/
  probe : Bool
  /-- A WARN waiting for a round boundary after exhaustion (R16). -/
  waiting : Bool
  deriving DecidableEq, Repr

/-- The four outbox slots (R14). -/
structure Outbox where
  cease : Option Slot
  demand : Option Slot
  state : Option Slot
  warn : Option Slot
  deriving DecidableEq, Repr

/-- The copy the transmitter is sending (R15, R17). -/
structure Copy where
  kind : FrameKind
  frame : Frame
  probe : Bool
  /-- The slot still holds the frame the copy was taken from (R17). -/
  own : Bool
  /-- A RESTART came while the copy was on the line: its outcome touches no slot and no streak (R23). -/
  detached : Bool
  deriving DecidableEq, Repr

/-- The Link Controller's state (R4, R14 to R22). -/
structure Link where
  state : LinkState
  outbox : Outbox
  /-- Remaining duration kept with the CEASE slot, in rounds (R17). -/
  ceaseLeft : Nat
  streak : Nat
  /-- Hold-off timer: µs still to run, or stopped (R18). -/
  holdOff : Option Nat
  probeCount : Nat
  /-- A station clash held until LOCK (R11). -/
  clashHeld : Bool
  tx : Option Copy
  line : LineView
  deriving DecidableEq, Repr

/-! ## Round Timer (R24) -/

/-- The Round Timer's state (R24). -/
structure RoundTimer where
  count : Round
  /-- µs since the last boundary. -/
  phase : Nat
  /-- The round period in force, in ms: a loaded period acts from the next boundary. -/
  period : Nat
  /-- µs until the boundary timer expires. -/
  boundary : Nat
  /-- STATE emission timer: µs still to run, or stopped (R29). -/
  emission : Option Nat
  /-- The MODEL's own marks (notes/assumptions/37.md): an expiry that was due when its timer was set anew, and so does not come (R27, R29). -/
  boundaryStruck : Bool
  emissionStruck : Bool
  deriving DecidableEq, Repr

/-! ## Peer Table (R30) -/

/-- The STATE group of a peer record (R30). -/
structure StateGroup where
  /-- The role code as carried or strapped. -/
  role : BitVec 4
  readiness : Readiness
  limitA : Nat
  limitB : Nat
  actual : Int
  aux : Int
  signature : BitVec 16
  worst : Level
  arrival : Round
  deriving DecidableEq, Repr

/-- The six flags of a DEMAND frame (R7). -/
structure DemandFlags where
  doors : Bool
  stopHold : Bool
  quiet : Bool
  brake : Bool
  both : Bool
  disagree : Bool
  deriving DecidableEq, Repr

/-- The DEMAND group of a peer record (R30). -/
structure DemandGroup where
  sequence : Byte
  demand : Int
  speed : Nat
  flags : DemandFlags
  arrival : Round
  deriving DecidableEq, Repr

/-- The WARN group of a peer record (R30). -/
structure WarnGroup where
  slots : Vector WarnCode 12
  deficit : Bool
  isolation : Bool
  arrival : Round
  deriving DecidableEq, Repr

/-- One peer record (R30). -/
structure PeerRecord where
  present : Bool := false
  state : Option StateGroup := Option.none
  demand : Option DemandGroup := Option.none
  lastSequence : Option Byte := Option.none
  warn : Option WarnGroup := Option.none
  discord : Bool := false
  surplus : Bool := false
  deriving DecidableEq, Repr

/-! ## Share Unit (R43) -/

/-- A cease window: remaining rounds and setter (R43). -/
structure Window where
  left : Nat
  setter : Option (Station × Fin 4)
  deriving DecidableEq, Repr

/-- One station in a pass's snapshot (R45). -/
structure SnapStation where
  usable : Bool
  role : Role
  limitA : Nat
  limitB : Nat
  aux : Int
  deriving DecidableEq, Repr

/-- The snapshot of a share pass (R45). -/
structure Snapshot where
  demand : Int
  stale : Bool
  tractionCease : Bool
  linkCease : Bool
  stations : Vector SnapStation 16
  genset : Option Station
  pack : Option Station
  deriving DecidableEq, Repr

/-- The pass in flight: its snapshot and the µs it has run (R45). -/
structure Pass where
  snap : Snapshot
  age : Nat
  deriving DecidableEq, Repr

/-- The flags of a plan (R63). -/
structure PlanFlags where
  demandStale : Bool := false
  packBlind : Bool := false
  tractionCease : Bool := false
  linkCease : Bool := false
  motorLimit : Bool := false
  packDischarge : Bool := false
  supplyShort : Bool := false
  packCharge : Bool := false
  ceilingLifted : Bool := false
  deficit : Bool := false
  deriving DecidableEq, Repr

/-- What the share computation forms from a snapshot (R54 to R63). -/
structure PlanBody where
  mode : PlanMode
  demand : Int
  /-- D_cap in TRACTION and COAST, Q in BRAKING. -/
  base : Int
  supply : Int
  gSet : Int
  pb : Int
  rTot : Int
  fTot : Int
  deficit : Int
  flags : PlanFlags
  grants : Vector (Option Int) 16
  /-- The friction set F of the pass, over which R174 splits the shortfall. -/
  brakes : Vector Bool 16
  deriving DecidableEq, Repr

/-- A published plan record (R64). -/
structure Plan where
  number : BitVec 16
  round : Round
  body : PlanBody
  ownGrant : Int
  deriving DecidableEq, Repr

/-- The Share Unit's state (R43). -/
structure Share where
  held : Int
  staleCount : Nat
  pass : Option Pass
  pendingDemand : Option Int
  traction : Window
  link : Window
  planCounter : BitVec 16
  plan : Option Plan
  deriving DecidableEq, Repr

/-! ## Readiness Controller (R69) -/

/-- The set of fault causes (R69). -/
structure Causes where
  start : Bool
  stop : Bool
  shutdown : Bool
  clash : Bool
  deriving DecidableEq, Repr

/-- The Readiness Controller's state (R69). -/
structure ReadyUnit where
  state : Readiness
  causes : Causes
  stopDest : StopDest
  startRetries : Nat
  onCount : Nat
  offCount : Nat
  gapCount : Nat
  limitOverride : Nat
  factor : Nat
  limitA : Nat
  limitB : Nat
  /-- The curve input figure handed at the last measurement event (R100); 0 before the first (notes/assumptions/21.md). -/
  curveInput : Int
  deriving DecidableEq, Repr

/-! ## Step Engine (R86) -/

/-- The wait of the current step (R86). -/
inductive Wait where
  | none
  | hold (left : Nat)
  | pause (left : Nat)
  deriving DecidableEq, Repr

/-- The outcome record (R86, R94, R95). -/
structure ListOutcome where
  list : ListName
  verdict : Verdict
  cause : Option FailCause
  failStep : Option (Fin 64)
  deriving DecidableEq, Repr

/-- The Step Engine's state (R86). -/
structure Engine where
  memory : Vector Step 64
  list : Option ListName
  pointer : Fin 64
  stack : List (Fin 64)
  budget : Nat
  wait : Wait
  outcome : Option ListOutcome
  pulses : Vector Nat 4
  /-- Output A is held by the list (R88). -/
  holdsA : Bool
  deriving DecidableEq, Repr

/-! ## Sampling Wheel and window monitors (R97, R101) -/

/-- One analogue channel (R97). -/
structure Channel where
  latest : Int
  filtered : Int
  seed : Bool
  deriving DecidableEq, Repr

/-- One window monitor (R101). -/
structure Monitor where
  tripped : Bool
  run : Nat
  deriving DecidableEq, Repr

/-- The Sampling Wheel's state (R97, R113). -/
structure Wheel where
  position : Fin 8
  /-- µs since the position began. -/
  elapsed : Nat
  /-- The position map of the turn in progress: a loaded entry acts from the next turn (R113). -/
  map : Vector (Option (Fin 4)) 8
  channels : Vector Channel 4
  monitors : Vector Monitor 2
  deriving DecidableEq, Repr

/-! ## Pulse Capture Unit (R103, R110) -/

/-- One capture channel (R103). -/
structure Capture where
  edges : Nat
  fifo : List Micros
  overflow : Bool
  reference : Option Micros
  speed : Nat
  /-- Zero-speed timer: µs still to run, or stopped (R108). -/
  timer : Option Nat
  /-- The MODEL's own mark (notes/assumptions/37.md): an expiry that was due when the timer was set anew, and so does not come (R108). -/
  struck : Bool
  deriving DecidableEq, Repr

/-- C1's demodulation state (R110). -/
structure Demod where
  rising : Option Micros
  high : Option Micros
  duty : Nat
  absent : Bool
  /-- Absence timer: µs still to run, or stopped (R111). -/
  timer : Option Nat
  /-- The MODEL's own mark (notes/assumptions/37.md): an expiry that was due when the timer was set anew, and so does not come (R111). -/
  struck : Bool
  deriving DecidableEq, Repr

/-- The Pulse Capture Unit's state (R103). -/
structure CaptureUnit where
  micros : Micros
  c0 : Capture
  c1 : Capture
  demod : Demod
  deriving DecidableEq, Repr

/-! ## Command Output Unit (R115, R126, R130) -/

/-- One command output (R115). Its FAULTED holding holds exactly while readiness is FAULTED (R125) and is read from there. -/
structure Output where
  active : Nat
  pending : Nat
  source : SourceState
  resetHold : Bool
  /-- In shutdown: from an entry or the setting of the reset hold until the period end at which the output leaves (R121). -/
  inShutdown : Bool
  pin : PinMode
  /-- The running period's length in µs, and the µs of it gone by. -/
  period : Nat
  elapsed : Nat
  deriving DecidableEq, Repr

/-- One discrete output line (R130): on or off, and whether the Step Engine has driven it since its safe state was last imposed. -/
structure Discrete where
  on : Bool
  driven : Bool
  deriving DecidableEq, Repr

/-- The frozen shutdown snapshot (R126). -/
structure ShutdownRecord where
  round : Round
  output : OutName
  ownGrant : Option Int
  activeA : Nat
  activeB : Nat
  markA : Bool
  markB : Bool
  sources : BitVec 7
  readiness : Readiness
  deriving DecidableEq, Repr

/-- The Command Output Unit's state (R115, R118, R126, R130). The line and monitor sources are read from the pins and the monitors (R118). -/
structure Outputs where
  a : Output
  b : Output
  soft : Bool
  lines : Vector Discrete 4
  snapshot : Option ShutdownRecord
  deriving DecidableEq, Repr

/-! ## Role Logic -/

/-- The Demand Role's state (R134), with the aux figure it writes (R142). -/
structure DemandRole where
  result : Int
  rampBase : Int
  disagree : Bool
  both : Bool
  brake : Bool
  door : Bool
  stopHold : Bool
  quiet : Bool
  sequence : Byte
  computed : Bool
  aux : Nat
  deriving DecidableEq, Repr

/-- The GENSET role's state (R147). -/
structure GensetRole where
  request : Bool
  actual : Int
  aux : Nat
  deriving DecidableEq, Repr

/-- The PACK role's state (R155). -/
structure PackRole where
  charge : Nat
  remainder : Int
  soc : Nat
  actual : Int
  deriving DecidableEq, Repr

/-- The TRACTION role's state (R165), and whether the link has returned from ISOLATED with no plan completed since (R170). -/
structure TractionRole where
  applied : Int
  torque : Int
  awaiting : Bool
  actual : Int
  aux : Nat
  deriving DecidableEq, Repr

/-- The FRICTION role's state (R171), with the aux figure it has written (R177). -/
structure FrictionRole where
  applied : Nat
  contributions : Vector Nat 16
  ownPart : Nat
  stopHold : Bool
  temp : Int
  energyRem : Int
  heatRem : Int
  coolRem : Int
  lastCompletion : Option Micros
  thickness : Int
  thicknessAbsent : Bool
  aux : Int
  deriving DecidableEq, Repr

/-- Role Logic's state: it is held at every role (R134). -/
structure Roles where
  demand : DemandRole
  genset : GensetRole
  pack : PackRole
  traction : TractionRole
  friction : FrictionRole
  deriving DecidableEq, Repr

/-! ## Wear Unit (R180, R191, R192) -/

/-- A wear record (R180). -/
structure WearRecord where
  kind : WearKind
  value : Int
  watch : Int
  alarm : Int
  hysteresis : Nat
  watchFactor : Nat
  alarmFactor : Nat
  hot : Int
  carry : Nat
  /-- The gate over the open segment: 1 or 0 for a time kind, the applied grant for a traction energy kind (R183, R198). -/
  gate : Int
  state : Level
  stamp : Round
  deriving DecidableEq, Repr

/-- An entry of the warning queue (R192). -/
structure WarnEntry where
  source : Source
  level : Level
  stamp : Round
  deriving DecidableEq, Repr

/-- A further warning source, DEFICIT or ISOLATION (R191). -/
structure FurtherSource where
  alarm : Bool
  stamp : Round
  deriving DecidableEq, Repr

/-- The Wear Unit's state (R180 to R195). -/
structure Wear where
  slots : Vector (Option WearRecord) 12
  deficit : FurtherSource
  isolation : FurtherSource
  queue : List WarnEntry
  refresh : Nat
  lowMark : Bool
  /-- Microsecond count at which the open segment opened, or no segment open (R183). -/
  segment : Option Micros
  factor : Nat
  /-- Round at which the self-entry's WARN group was last rewritten (R191). -/
  rewritten : Round
  deriving DecidableEq, Repr

/-! ## Attention Controller (R202) and Local Port (R196) -/

/-- The Attention Controller's state (R202); its order items stand in `Items`. -/
structure Attention where
  pending : BitVec 6
  enable : BitVec 6
  master : Bool
  deriving DecidableEq, Repr

/-- An exchange that has passed its answer point (R196): the command code and its argument bytes as one number, the reply it was given, and the warning queue entry it answered with, if it is a NEXT WARNING (R202). -/
structure Exchange where
  code : Nat
  argument : Nat
  reply : Reply
  answered : Option WarnEntry
  deriving DecidableEq, Repr

/-- The select period (R196): none known to be in progress, one in progress before its answer point, one past its answer point, or one that was cut by a reset and counts as no exchange. -/
inductive Select where
  | waiting
  | opened
  | answered (e : Exchange)
  | void
  deriving DecidableEq, Repr

/-- The Local Port's state (R196, R197), with the reply byte and the answer bytes it last clocked out. -/
structure Port where
  select : Select
  short : Bool
  withdrawn : Bool
  lastOutcome : Option Reply
  reply : Byte
  answer : List Byte
  deriving DecidableEq, Repr

/-! ## The whole part -/

/-- The state of one WZ-318. `orders` is the MODEL's own count of open orders taken (see `Config.freeOrder`); `pending` is the queue of waiting commands, first in first out. -/
structure State where
  pins : Pins
  items : Items
  link : Link
  round : RoundTimer
  peers : Vector PeerRecord 16
  share : Share
  ready : ReadyUnit
  engine : Engine
  wheel : Wheel
  capture : CaptureUnit
  outputs : Outputs
  roles : Roles
  wear : Wear
  attention : Attention
  port : Port
  orders : Nat
  pending : List Instr
  deriving DecidableEq, Repr

/-- Why the part stops with a fault: never. The manual gives every command an effect or lets it pass without one, and a frame, an argument or an event that does not fit is answered, discarded or without effect, so no meaning raises a fault. -/
inductive Fault where
  deriving DecidableEq, Repr

/-- Why a command is refused. -/
inductive Refusal where
  /-- Raised by `exec` for a command that has no meaning yet (safe: nothing is claimed of it). No arm of this model raises it. -/
  | notModelled (mnemonic : String)
  deriving DecidableEq, Repr

/-! ## Reset (R22, R24, R30, R39, R43, R69, R96, R97, R102, R103, R112, R132, R134, R147, R155, R165, R171, R195, R207) -/

/-- An analogue channel after reset (R97). -/
def Channel.power : Channel := { latest := 0, filtered := 0, seed := true }

/-- A capture channel after reset, after RESTART and after a loading of one of its items (R103, R109). -/
def Capture.power : Capture :=
  { edges := 0, fifo := [], overflow := false, reference := none, speed := 0, timer := none, struck := false }

/-- A closed cease window (R43). -/
def Window.closed : Window := { left := 0, setter := none }

/-- An empty outbox (R22). -/
def Outbox.empty : Outbox := { cease := none, demand := none, state := none, warn := none }

/-- A command output after reset (R132): reset hold set, pin in its shutdown state. -/
def Output.power (duty : Nat) : Output :=
  { active := duty, pending := duty, source := .none, resetHold := true, inShutdown := true, pin := .shutdown,
    period := 1000, elapsed := 0 }

/-- The role code as a STATE frame's four-bit field. -/
def roleCode (p : Straps) : BitVec 4 := p.role.zeroExtend 4

/-- Every block as power-on reset and the reset pin leave it, for given straps and pin levels at the release of reset. The manual gives the curve input figure of R100 no value before the first measurement event: 0 is the model's (DESIGN CHOICE, notes/assumptions/21.md). -/
def State.powerOn (straps : Straps) (lines inputs : BitVec 4) (analog : Vector Int 4) : State :=
  { pins := { straps, lines, inputs, analog }
    items := {}
    link :=
      { state := .silent, outbox := .empty, ceaseLeft := 0, streak := 0, holdOff := none, probeCount := 0,
        clashHeld := false, tx := none, line := .waiting }
    round := { count := 0, phase := 0, period := 10, boundary := 10000, emission := none, boundaryStruck := false, emissionStruck := false }
    peers := Vector.ofFn fun _ => {}
    share :=
      { held := 0, staleCount := 0, pass := none, pendingDemand := none, traction := .closed, link := .closed,
        planCounter := 0, plan := none }
    ready :=
      { state := .unconfigured, causes := { start := false, stop := false, shutdown := false, clash := false },
        stopDest := .offline, startRetries := 0, onCount := 0, offCount := 0, gapCount := 0, limitOverride := 1000,
        factor := 1000, limitA := 0, limitB := 0, curveInput := 0 }
    engine :=
      { memory := Vector.ofFn fun _ => .end_ false, list := none, pointer := 0, stack := [], budget := 0, wait := .none,
        outcome := none, pulses := Vector.ofFn fun _ => 0, holdsA := false }
    wheel :=
      { position := 0, elapsed := 0, map := ({} : Items).map, channels := Vector.ofFn fun _ => Channel.power,
        monitors := Vector.ofFn fun _ => { tripped := false, run := 0 } }
    capture :=
      { micros := 0, c0 := .power, c1 := .power,
        demod := { rising := none, high := none, duty := 0, absent := true, timer := none, struck := false } }
    outputs :=
      { a := .power (if Role.ofCode (roleCode straps) = .traction then 500 else 100), b := .power 0, soft := false,
        lines := Vector.ofFn fun _ => { on := false, driven := false }, snapshot := none }
    roles :=
      { demand :=
          { result := 0, rampBase := 0, disagree := false, both := false, brake := false, door := false, stopHold := false,
            quiet := false, sequence := 0, computed := false, aux := 0 }
        genset := { request := false, actual := 0, aux := 0 }
        pack := { charge := 0, remainder := 0, soc := 0, actual := 0 }
        traction := { applied := 0, torque := 0, awaiting := false, actual := 0, aux := 0 }
        friction :=
          { applied := 0, contributions := Vector.ofFn fun _ => 0, ownPart := 0, stopHold := false, temp := 200,
            energyRem := 0, heatRem := 0, coolRem := 0, lastCompletion := none, thickness := 0, thicknessAbsent := true,
            aux := 0 } }
    wear :=
      { slots := Vector.ofFn fun _ => none, deficit := { alarm := false, stamp := 0 },
        isolation := { alarm := false, stamp := 0 }, queue := [], refresh := 0, lowMark := false, segment := none,
        factor := 1000, rewritten := 0 }
    attention := { pending := 0, enable := 0x3F, master := false }
    port := { select := .waiting, short := false, withdrawn := false, lastOutcome := none, reply := 0, answer := [] }
    orders := 0
    pending := [] }

/-- The part right after reset. The manual gives no straps, no pin levels and no analogue levels: station 0, role code 0, every shutdown line high, every discrete input low and every analogue input at ground are the model's (DESIGN CHOICE, notes/assumptions/1.md). -/
def State.reset : State :=
  State.powerOn { station := 0, role := 0 } 0xF 0 (Vector.ofFn fun _ => 0)

end Sys2Proof.Machine
end

