-- ==== Sys2Proof/Machine/Frames.lean ====
section
/-! DEFINITION. The driveline link's frames: the check, the layouts, the receiver's judgement of a frame and the composition of one (R5 to R9). -/

namespace Sys2Proof.Machine

/-! ## Fields and bytes -/

/-- The high byte of a two-byte field. -/
def highByte (w : BitVec 16) : Byte := w.extractLsb' 8 8

/-- The low byte of a two-byte field. -/
def lowByte (w : BitVec 16) : Byte := w.extractLsb' 0 8

/-- A two-byte field, most significant byte first (R7). -/
def field16 (w : BitVec 16) : List Byte := [highByte w, lowByte w]

/-- The field two bytes make, most significant byte first (R7). -/
def wordOf (hi lo : Byte) : BitVec 16 := hi ++ lo

/-- Readiness as the STATE frame codes it (R7). -/
def readinessCode : Readiness → Nat
  | .unconfigured => 0 | .offline => 1 | .standby => 2 | .starting => 3
  | .ready => 4 | .derated => 5 | .stopping => 6 | .faulted => 7

/-- The readiness a STATE frame's code names, if any (R7, R8). -/
def readinessOf : Nat → Option Readiness
  | 0 => some .unconfigured | 1 => some .offline | 2 => some .standby | 3 => some .starting
  | 4 => some .ready | 5 => some .derated | 6 => some .stopping | 7 => some .faulted
  | _ => none

/-- A level as a STATE frame codes it (R7). -/
def levelCode : Level → Nat
  | .clear => 0 | .watch => 1 | .alarm => 2

/-- The level a STATE frame's code names, if any (R7, R8). -/
def levelOf : Nat → Option Level
  | 0 => some .clear | 1 => some .watch | 2 => some .alarm
  | _ => none

/-- A slot state as a WARN frame codes it (R7). -/
def warnCode : WarnCode → BitVec 2
  | .clear => 0 | .watch => 1 | .alarm => 2 | .unused => 3

/-- The slot state a WARN frame's two bits name (R7). -/
def warnOf (c : BitVec 2) : WarnCode :=
  match c.toNat with
  | 0 => .clear | 1 => .watch | 2 => .alarm | _ => .unused

/-- A cease kind as a CEASE frame codes it (R7). -/
def ceaseCode : CeaseKind → Byte
  | .traction => 1 | .link => 2

/-! ## Precedence, length and check -/

/-- The kind code of a frame kind (R5). -/
def kindCode : FrameKind → BitVec 2
  | .cease => 0 | .demand => 1 | .state => 2 | .warn => 3

/-- The frame kind a precedence field names (R5). -/
def kindOf (p : BitVec 6) : FrameKind :=
  match (p.extractLsb' 4 2).toNat with
  | 0 => .cease | 1 => .demand | 2 => .state | _ => .warn

/-- The sender's station number in a precedence field (R5). -/
def senderOf (p : BitVec 6) : Station := (p.extractLsb' 0 4).toFin

/-- The precedence field of a kind and a station (R5). -/
def precedenceOf (k : FrameKind) (i : Station) : BitVec 6 := kindCode k ++ (BitVec.ofFin i : BitVec 4)

/-- The fixed payload length of each kind (R5). -/
def payloadLength : FrameKind → Nat
  | .cease => 4 | .demand => 6 | .state => 12 | .warn => 4

/-- The bits of a field, most significant first (R5). -/
def bitsMsb {n : Nat} (v : BitVec n) : List Bool := (List.range n).map v.getMsbD

/-- The bits the check runs over, in the order they are sent (R6). -/
def checkedBits (precedence : BitVec 6) (length : BitVec 4) (payload : List Byte) : List Bool :=
  bitsMsb precedence ++ bitsMsb length ++ payload.flatMap bitsMsb

/-- One bit taken into the check register (R6): generator x^16 + x^12 + x^5 + 1. -/
def checkBit (r : BitVec 16) (b : Bool) : BitVec 16 :=
  if xor b r.msb then (r <<< 1) ^^^ 0x1021#16 else r <<< 1

/-- The check over the given fields: the register starts at all ones (R6). -/
def frameCheck (precedence : BitVec 6) (length : BitVec 4) (payload : List Byte) : BitVec 16 :=
  (checkedBits precedence length payload).foldl checkBit 0xFFFF#16

/-- A frame as this node sends it (R5, R6, R7). -/
def composeFrame (k : FrameKind) (i : Station) (payload : List Byte) : Frame :=
  let precedence := precedenceOf k i
  let length := BitVec.ofNat 4 payload.length
  { precedence, length, payload, check := frameCheck precedence length payload }

/-- The whole of a frame on the line, dominant as false: start bit, fields, check, the acknowledge slot sent recessive, and 7 recessive end bits (R5). -/
def lineBits (f : Frame) : List Bool :=
  false :: checkedBits f.precedence f.length f.payload ++ bitsMsb f.check ++ true :: List.replicate 7 true

/-! ## Payload contents -/

/-- The figures of a CEASE frame as R8 leaves them. -/
structure CeaseContent where
  kind : CeaseKind
  duration : Nat
  line : Fin 4
  deriving DecidableEq, Repr

/-- The figures of a DEMAND frame as R8 leaves them. -/
structure DemandContent where
  sequence : Byte
  demand : Int
  speed : Nat
  flags : DemandFlags
  deriving DecidableEq, Repr

/-- The figures of a STATE frame as R8 leaves them. -/
structure StateContent where
  role : BitVec 4
  readiness : Readiness
  limitA : Nat
  limitB : Nat
  actual : Int
  aux : Int
  signature : BitVec 16
  worst : Level
  deriving DecidableEq, Repr

/-- The figures of a WARN frame as R8 leaves them. -/
structure WarnContent where
  slots : Vector WarnCode 12
  deficit : Bool
  isolation : Bool
  deriving DecidableEq, Repr

/-- What an accepted frame carries (R10). -/
inductive Content where
  | cease (c : CeaseContent)
  | demand (c : DemandContent)
  | state (c : StateContent)
  | warn (c : WarnContent)
  deriving DecidableEq, Repr

/-- The six flags of DEMAND byte 5 (R7). -/
def demandFlagsOf (b : Byte) : DemandFlags :=
  { doors := b.getLsbD 0, stopHold := b.getLsbD 1, quiet := b.getLsbD 2, brake := b.getLsbD 3, both := b.getLsbD 4,
    disagree := b.getLsbD 5 }

/-- A set of marks as bits, the first in bit 0. -/
def bitSet (l : List Bool) : Nat := l.foldr (fun b n => b.toNat + 2 * n) 0

/-- DEMAND byte 5 (R7). -/
def demandFlagsByte (f : DemandFlags) : Byte :=
  BitVec.ofNat 8 (bitSet [f.doors, f.stopHold, f.quiet, f.brake, f.both, f.disagree])

/-- Limit A as received: taken as 0 where R7 gives 0 for the role, and as 6000 above it (R8). -/
def receivedLimitA (r : Role) (w : BitVec 16) : Nat :=
  if r = .demand then 0 else bringNat 0 6000 w.toNat

/-- Limit B as received (R7, R8). -/
def receivedLimitB (r : Role) (w : BitVec 16) : Nat :=
  if r = .pack ∨ r = .traction then bringNat 0 6000 w.toNat else 0

/-- The actual figure as received (R7, R8). -/
def receivedActual (r : Role) (w : BitVec 16) : Int :=
  if r = .demand then 0 else bring (-6000) 6000 w.toInt

/-- The aux figure as received: signed for FRICTION, unsigned otherwise (R7, R8). -/
def receivedAux (r : Role) (w : BitVec 16) : Int :=
  if r = .friction then bring (-400) 12000 w.toInt
  else if r = .pack then (bringNat 0 1000 w.toNat : Int)
  else (w.toNat : Int)

/-- A CEASE payload: refused for a cease kind other than 1 or 2 or a cause line above 3; a duration of 0 is taken as 1 (R7, R8). -/
def ceaseContent : List Byte → Option CeaseContent
  | [k, d1, d0, l] =>
    if h : l.toNat < 4 then
      if k.toNat = 1 then some { kind := .traction, duration := bringNat 1 65535 (wordOf d1 d0).toNat, line := ⟨l.toNat, h⟩ }
      else if k.toNat = 2 then some { kind := .link, duration := bringNat 1 65535 (wordOf d1 d0).toNat, line := ⟨l.toNat, h⟩ }
      else none
    else none
  | _ => none

/-- A DEMAND payload (R7, R8). -/
def demandContent : List Byte → Option DemandContent
  | [q, d1, d0, v1, v0, f] =>
    some { sequence := q, demand := bring (-6000) 6000 (wordOf d1 d0).toInt, speed := (wordOf v1 v0).toNat,
           flags := demandFlagsOf f }
  | _ => none

/-- A STATE payload: refused for a role outside 1 to 5, a readiness above 7 or a worst warning above 2 (R7, R8). -/
def stateContent : List Byte → Option StateContent
  | [rr, a1, a0, b1, b0, p1, p0, x1, x0, s1, s0, w] =>
    let code : BitVec 4 := rr.extractLsb' 4 4
    let role := Role.ofCode code
    if role = .none then none
    else
      match readinessOf (rr.extractLsb' 0 4).toNat, levelOf w.toNat with
      | some readiness, some worst =>
        some { role := code, readiness, limitA := receivedLimitA role (wordOf a1 a0), limitB := receivedLimitB role (wordOf b1 b0),
               actual := receivedActual role (wordOf p1 p0), aux := receivedAux role (wordOf x1 x0), signature := wordOf s1 s0, worst }
      | _, _ => none
  | _ => none

/-- A DEFICIT or ISOLATION code: 0 CLEAR or 2 ALARM, and refused otherwise (R7, R8). -/
def alarmOf (c : BitVec 2) : Option Bool :=
  match c.toNat with
  | 0 => some false
  | 2 => some true
  | _ => none

/-- A WARN payload (R7, R8). -/
def warnContent : List Byte → Option WarnContent
  | [b0, b1, b2, b3] =>
    let pair (b : Byte) (k : Nat) : WarnCode := warnOf (b.extractLsb' k 2)
    match alarmOf (b3.extractLsb' 6 2), alarmOf (b3.extractLsb' 4 2) with
    | some deficit, some isolation =>
      some { slots := #v[pair b0 6, pair b0 4, pair b0 2, pair b0 0, pair b1 6, pair b1 4, pair b1 2, pair b1 0,
                         pair b2 6, pair b2 4, pair b2 2, pair b2 0],
             deficit, isolation }
    | _, _ => none
  | _ => none

/-- A payload's content by the kind its precedence names (R8). -/
def contentOf (k : FrameKind) (payload : List Byte) : Option Content :=
  match k with
  | .cease => (ceaseContent payload).map .cease
  | .demand => (demandContent payload).map .demand
  | .state => (stateContent payload).map .state
  | .warn => (warnContent payload).map .warn

/-- The receiver's judgement (R9): none for a frame it discards, the content for one it accepts. A length field above 14 differs from every kind's fixed length. -/
def judgeFrame (f : Frame) : Option Content :=
  if f.length.toNat = payloadLength (kindOf f.precedence) ∧ f.payload.length = f.length.toNat ∧
      f.check = frameCheck f.precedence f.length f.payload then
    contentOf (kindOf f.precedence) f.payload
  else none

/-! ## Composing payloads (R7) -/

/-- A CEASE payload. -/
def ceasePayload (k : CeaseKind) (duration : Nat) (line : Fin 4) : List Byte :=
  ceaseCode k :: field16 (BitVec.ofNat 16 duration) ++ [BitVec.ofNat 8 line.val]

/-- A CEASE payload with its duration field rewritten, as the transmitter copies it (R17). -/
def withDuration (payload : List Byte) (duration : Nat) : List Byte :=
  match payload with
  | [k, _, _, l] => k :: field16 (BitVec.ofNat 16 duration) ++ [l]
  | p => p

/-- A DEMAND payload. -/
def demandPayload (g : DemandGroup) : List Byte :=
  g.sequence :: field16 (BitVec.ofInt 16 g.demand) ++ field16 (BitVec.ofNat 16 g.speed) ++ [demandFlagsByte g.flags]

/-- A STATE payload. -/
def statePayload (g : StateGroup) : List Byte :=
  (g.role ++ BitVec.ofNat 4 (readinessCode g.readiness) : BitVec 8) :: field16 (BitVec.ofNat 16 g.limitA) ++
    field16 (BitVec.ofNat 16 g.limitB) ++ field16 (BitVec.ofInt 16 g.actual) ++ field16 (BitVec.ofInt 16 g.aux) ++
    field16 g.signature ++ [BitVec.ofNat 8 (levelCode g.worst)]

/-- A DEFICIT or ISOLATION code. -/
def alarmCode (b : Bool) : BitVec 2 := if b then 2 else 0

/-- Four slot states in one byte, the first in bits 7 and 6. -/
def slotByte (a b c d : WarnCode) : Byte := warnCode a ++ warnCode b ++ warnCode c ++ warnCode d

/-- A WARN payload. -/
def warnPayload (g : WarnGroup) : List Byte :=
  let w := g.slots
  [slotByte w[0] w[1] w[2] w[3], slotByte w[4] w[5] w[6] w[7], slotByte w[8] w[9] w[10] w[11],
   (alarmCode g.deficit ++ alarmCode g.isolation ++ (0 : BitVec 4) : BitVec 8)]

end Sys2Proof.Machine
end

