-- ==== Sys2Proof/Machine/Ops.lean ====
section
/-! DEFINITION. The shared readings of the state and the smallest shared operations: the role, the Peer Table's view and judgements, the outbox, the shutdown sources, the zero-power gate, the writes of output A. -/

namespace Sys2Proof.Machine

/-! ## Index lists and vector updates -/

/-- The station numbers in ascending order. -/
def allStations : List Station := [0, 1, 2, 3, 4, 5, 6, 7, 8, 9, 10, 11, 12, 13, 14, 15]

/-- The wear slots in order. -/
def allSlots : List (Fin 12) := [0, 1, 2, 3, 4, 5, 6, 7, 8, 9, 10, 11]

/-- A vector with one entry changed. -/
def alter {α : Type} {n : Nat} (v : Vector α n) (i : Fin n) (f : α → α) : Vector α n :=
  Vector.ofFn fun j => if j = i then f v[j] else v[j]

/-! ## Plain readings -/

/-- The node's own station number (R1). -/
def State.self (s : State) : Station := s.pins.straps.station

/-- The node's strapped role (R1). -/
def State.role (s : State) : Role := Role.ofCode (roleCode s.pins.straps)

/-- Readiness is one of the locked states (R70). -/
def State.locked (s : State) : Bool := decide (s.ready.state ≠ .unconfigured)

/-- Readiness is READY or DERATED. -/
def isAvailable (r : Readiness) : Bool :=
  match r with
  | .ready => true | .derated => true
  | .unconfigured => false | .offline => false | .standby => false | .starting => false | .stopping => false | .faulted => false

/-- The node is READY or DERATED. -/
def State.available (s : State) : Bool := isAvailable s.ready.state

/-- The filtered value of an analogue channel (R97). -/
def State.filtered (s : State) (c : Fin 4) : Int := s.wheel.channels[c].filtered

/-- The state of a capture channel (R103). -/
def CaptureUnit.get (u : CaptureUnit) (c : CapName) : Capture :=
  match c with
  | .c0 => u.c0
  | .c1 => u.c1

/-- A capture unit with one channel's state replaced. -/
def CaptureUnit.put (u : CaptureUnit) (c : CapName) (x : Capture) : CaptureUnit :=
  match c with
  | .c0 => { u with c0 := x }
  | .c1 => { u with c1 := x }

/-- The items of a capture channel (R104). -/
def Items.capture (k : Items) (c : CapName) : CaptureItems :=
  match c with
  | .c0 => k.capture0
  | .c1 => k.capture1

/-- The speed figure of a capture channel; that of C1 in DEMODULATE mode is 0 (R109, R112). -/
def State.speed (s : State) (c : CapName) : Nat :=
  match c with
  | .c0 => s.capture.c0.speed
  | .c1 => if s.items.capture1.mode = .demodulate then 0 else s.capture.c1.speed

/-- The state of an output. -/
def Outputs.get (u : Outputs) (n : OutName) : Output :=
  match n with
  | .a => u.a
  | .b => u.b

/-- The outputs with one output's state replaced. -/
def Outputs.put (u : Outputs) (n : OutName) (o : Output) : Outputs :=
  match n with
  | .a => { u with a := o }
  | .b => { u with b := o }

/-- The items of an output (R115). -/
def Items.output (k : Items) (n : OutName) : OutputItems :=
  match n with
  | .a => k.outputA
  | .b => k.outputB

/-- The next of the orders the manual leaves open, and the state with it taken (`Config.freeOrder`). -/
def takeOrder (s : State) : Bool × State := (Config.freeOrder s.orders, { s with orders := s.orders + 1 })

/-- The mark of a timer that is set anew: an expiry that was due already does not come (R27, R29, R108, R111). -/
def strikes (timer : Option Nat) (struck : Bool) : Bool := struck || decide (timer = some 0)

/-! ## Attention (R202) -/

/-- The bit number of an attention source (R205). -/
def attnBit : Attn → Nat
  | .shutdown => 0 | .share => 1 | .wear => 2 | .step => 3 | .link => 4 | .capture => 5

/-- The mask of one attention source. -/
def attnMask (a : Attn) : BitVec 6 := BitVec.ofNat 6 (2 ^ attnBit a)

/-- Raising a source adds it to the pending set (R202). -/
def raise (a : Attn) (s : State) : State :=
  { s with attention := { s.attention with pending := s.attention.pending ||| attnMask a } }

/-- Raising a source if a condition holds. -/
def raiseIf (c : Bool) (a : Attn) (s : State) : State :=
  { s with attention := { s.attention with pending := if c then s.attention.pending ||| attnMask a else s.attention.pending } }

/-- The attention line: asserted while the master enable is on and a source is both pending and enabled (R202). -/
def attentionLine (s : State) : Bool :=
  s.attention.master && decide (s.attention.pending &&& s.attention.enable ≠ 0)

/-! ## Plan signature (R37) -/

/-- The plan signature: the sum of the sharing parameters modulo 65536 (R37). -/
def signatureOf (p : Sharing) : BitVec 16 :=
  BitVec.ofNat 16
    (p.x + p.rho + p.socLow + p.socTarget + p.socHigh + p.socCrit + p.kSoc + p.pEv + p.staleLimit + p.decayStep + p.brakeHold +
      p.distribution.toList.sum)

/-! ## Warning states as carried (R191) -/

/-- A slot's state as a warning source: its record's state, or UNUSED. -/
def slotCode (r : Option WearRecord) : WarnCode :=
  match r with
  | none => .unused
  | some w =>
    match w.state with
    | .clear => .clear
    | .watch => .watch
    | .alarm => .alarm

/-- The worst warning: ALARM if any source is in ALARM, otherwise WATCH if any is in WATCH, otherwise CLEAR (R191). -/
def worstWarning (w : Wear) : Level :=
  if w.deficit.alarm || w.isolation.alarm || w.slots.toList.any (fun r => decide (slotCode r = .alarm)) then .alarm
  else if w.slots.toList.any (fun r => decide (slotCode r = .watch)) then .watch
  else .clear

/-- The node's own WARN group (R39, R194). -/
def ownWarnGroup (w : Wear) : WarnGroup :=
  { slots := Vector.ofFn fun i => slotCode w.slots[i], deficit := w.deficit.alarm, isolation := w.isolation.alarm,
    arrival := w.rewritten }

/-! ## The self-entry (R39) -/

/-- The actual figure the role has written (R142, R148, R159, R166, R172). -/
def selfActual (s : State) : Int :=
  match s.role with
  | .none => 0
  | .demand => 0
  | .genset => s.roles.genset.actual
  | .pack => s.roles.pack.actual
  | .traction => s.roles.traction.actual
  | .friction => s.roles.friction.applied

/-- The aux figure the role has written (R142, R148, R157, R166, R177). -/
def selfAux (s : State) : Int :=
  match s.role with
  | .none => 0
  | .demand => s.roles.demand.aux
  | .genset => s.roles.genset.aux
  | .pack => s.roles.pack.soc
  | .traction => s.roles.traction.aux
  | .friction => s.roles.friction.aux

/-- The STATE group of the self-entry: each field as its owner holds it, the arrival round the current round count (R39). -/
def selfStateGroup (s : State) : StateGroup :=
  { role := roleCode s.pins.straps, readiness := s.ready.state, limitA := s.ready.limitA, limitB := s.ready.limitB,
    actual := selfActual s, aux := selfAux s, signature := signatureOf s.items.sharing, worst := worstWarning s.wear,
    arrival := s.round.count }

/-- The self-entry: present, never DISCORD, its DEMAND arrival round the current round count. What the Demand Role last wrote and the SURPLUS mark stand in the own number's place of the table (R39, R142). -/
def selfEntry (s : State) : PeerRecord :=
  let own := s.peers[s.self]
  { present := true, state := some (selfStateGroup s), demand := own.demand.map fun g => { g with arrival := s.round.count },
    lastSequence := own.lastSequence, warn := some (ownWarnGroup s.wear), discord := false, surplus := own.surplus }

/-- The Peer Table's record of a station (R30, R39). -/
def peer (s : State) (i : Station) : PeerRecord := if i = s.self then selfEntry s else s.peers[i]

/-- The Peer Table with one station's stored record replaced. -/
def putPeer (i : Station) (r : PeerRecord) (s : State) : State := { s with peers := alter s.peers i fun _ => r }

/-! ## Freshness, single roles, usable stations (R34, R36, R40) -/

/-- Rounds from an arrival to now, modulo 2^32 (R34). -/
def ageOf (s : State) (arrival : Round) : Nat := (s.round.count - arrival).toNat

/-- FRESH: the STATE group is present and no older than the stale limit (R34). -/
def isFresh (s : State) (r : PeerRecord) : Bool :=
  match r.state with
  | none => false
  | some g => decide (ageOf s g.arrival ≤ s.items.sharing.staleLimit)

/-- The role a record holds. -/
def heldRole (r : PeerRecord) : Role :=
  match r.state with
  | none => .none
  | some g => Role.ofCode g.role

/-- DEMAND, GENSET and PACK are single roles (R36). -/
def isSingle (r : Role) : Bool :=
  match r with
  | .demand => true | .genset => true | .pack => true
  | .none => false | .traction => false | .friction => false

/-- The station in use for a role: the lowest-numbered FRESH record that holds it (R36). -/
def stationInUse (s : State) (r : Role) : Option Station :=
  allStations.find? fun i => isFresh s (peer s i) && decide (heldRole (peer s i) = r)

/-- The DEMAND group of the DEMAND station in use, if it is fresh (R34, R36). -/
def freshDemandGroup (s : State) : Option DemandGroup :=
  match stationInUse s .demand with
  | none => none
  | some i =>
    match (peer s i).demand with
    | none => none
    | some g => if ageOf s g.arrival ≤ s.items.sharing.staleLimit then some g else none

/-- DEMAND is fresh at the node (R36). -/
def demandFresh (s : State) : Bool := (freshDemandGroup s).isSome

/-- A station is usable: FRESH, not DISCORD, not SURPLUS, READY or DERATED (R40). -/
def isUsable (s : State) (r : PeerRecord) : Bool :=
  r.present && isFresh s r && !r.discord && !r.surplus &&
    match r.state with
    | none => false
    | some g => isAvailable g.readiness

/-- The SURPLUS mark of one record, judged anew for the given single roles: not FRESH or not of a single role, not marked; of a judged role, marked unless it is the station in use; of another, as it stands (R36). -/
def surplusMark (s : State) (roles : List Role) (i : Station) : Bool :=
  let r := peer s i
  let held := heldRole r
  if !isFresh s r || !isSingle held then false
  else if roles.contains held then decide (stationInUse s held ≠ some i)
  else r.surplus

/-- SURPLUS judged anew for the given roles; LINK attention at each entry to SURPLUS (R36). -/
def judgeSurplus (roles : List Role) (s : State) : State :=
  let entered := allStations.any fun i => surplusMark s roles i && !s.peers[i].surplus
  raiseIf entered .link
    { s with peers := Vector.ofFn fun i => { s.peers[i] with surplus := surplusMark s roles i } }

/-! ## Outbox (R14, R17) -/

/-- The slot of a kind. -/
def Outbox.get (o : Outbox) (k : FrameKind) : Option Slot :=
  match k with
  | .cease => o.cease
  | .demand => o.demand
  | .state => o.state
  | .warn => o.warn

/-- The outbox with the slot of a kind replaced. -/
def Outbox.put (o : Outbox) (k : FrameKind) (x : Option Slot) : Outbox :=
  match k with
  | .cease => { o with cease := x }
  | .demand => { o with demand := x }
  | .state => { o with state := x }
  | .warn => { o with warn := x }

/-- A copy on the line that its slot has left behind: the slot of that kind was superseded or emptied (R17). -/
def orphan (tx : Option Copy) (k : FrameKind) : Option Copy :=
  tx.map fun c => if c.kind = k then { c with own := false } else c

/-- A frame put into its slot: it supersedes what stood there, with the retry count at 0 (R14). -/
def Link.fill (l : Link) (k : FrameKind) (payload : List Byte) (probe : Bool) : Link :=
  { l with outbox := l.outbox.put k (some { payload, retries := 0, probe, waiting := false }), tx := orphan l.tx k }

/-- A slot emptied; an emptied CEASE slot leaves its remainder at 0 (R17). -/
def Link.clear (l : Link) (k : FrameKind) : Link :=
  { l with outbox := l.outbox.put k none, tx := orphan l.tx k, ceaseLeft := if k = .cease then 0 else l.ceaseLeft }

/-- Every slot emptied (R11, R19, R23). -/
def Link.clearAll (l : Link) : Link :=
  { l with outbox := .empty, tx := l.tx.map fun c => { c with own := false }, ceaseLeft := 0 }

/-- A placement by a block: taken while the Link Controller is ACTIVE, dropped in the other link states (R14). -/
def place (k : FrameKind) (payload : List Byte) (s : State) : State :=
  { s with link := if s.link.state = .active then s.link.fill k payload false else s.link }

/-- The placement of the node's STATE frame, composed from the self-entry at this moment (R29, R39). -/
def placeState (s : State) : State := place .state (statePayload (selfStateGroup s)) s

/-! ## Shutdown sources (R118) -/

/-- A shutdown line is active: its level stands at its active level (R118). -/
def lineActive (s : State) (l : Fin 4) : Bool := s.pins.lines.getLsbD l.val == s.items.lines[l].activeHigh

/-- The set of active sources: lines 0 to 3, monitors 0 and 1, soft (R118). -/
def activeSources (s : State) : BitVec 7 :=
  BitVec.ofNat 7
    (bitSet
      [lineActive s 0, lineActive s 1, lineActive s 2, lineActive s 3, s.wheel.monitors[0].tripped, s.wheel.monitors[1].tripped,
        s.outputs.soft])

/-- An enabled source of the output is active. -/
def enabledActive (s : State) (n : OutName) : Bool := decide ((s.items.output n).enable &&& activeSources s ≠ 0)

/-! ## Output A's map and the zero-power gate (R116, R117) -/

/-- The rest duty of output A (R117). -/
def restDuty (s : State) : Nat :=
  if s.role = .traction then (((s.items.dutyLo : Int) + ((s.items.dutyHi : Int) - s.items.dutyLo).tdiv 2)).toNat
  else s.items.dutyLo

/-- A cease window that stops the role is open: either window at TRACTION, the LINK CEASE window at GENSET (R117). -/
def ceaseStops (s : State) : Bool :=
  match s.role with
  | .traction => decide (0 < s.share.traction.left) || decide (0 < s.share.link.left)
  | .genset => decide (0 < s.share.link.left)
  | .none => false | .demand => false | .pack => false | .friction => false

/-- The zero-power gate of output A at a TRACTION or GENSET node (R117). -/
def gateHolds (s : State) : Bool :=
  (decide (s.role = .traction) || decide (s.role = .genset)) &&
    (!s.available || ceaseStops s || decide (s.link.state = .isolated))

/-- The gate's onset: the active duty becomes the rest duty at that instant, unless the pin is in its shutdown state (R117, R120). -/
def gateOnset (s : State) : State :=
  { s with
    outputs :=
      { s.outputs with
        a := { s.outputs.a with active := if s.outputs.a.pin = .running then restDuty s else s.outputs.a.active } } }

/-- An operation under which the gate may begin. -/
def gated (f : State → State) (s : State) : State :=
  let t := f s
  if gateHolds t && !gateHolds s then gateOnset t else t

/-- A duty brought into the map of output A (R116). Before LOCK the map may stand reversed, duty_lo above duty_hi: a duty below duty_lo is then brought to duty_lo and any other to duty_hi (DESIGN CHOICE, notes/assumptions/56.md). -/
def intoMap (s : State) (duty : Int) : Nat := (bring s.items.dutyLo s.items.dutyHi duty).toNat

/-- Role Logic's write of output A's duty: brought into the map, and not stored while a list holds output A (R88, R116). -/
def writeA (duty : Int) (s : State) : State :=
  { s with
    outputs :=
      { s.outputs with
        a := { s.outputs.a with pending := if s.engine.holdsA then s.outputs.a.pending else intoMap s duty } } }

/-! ## Discrete lines (R125, R130) -/

/-- FAULTED holding (R125). -/
def faultHolding (s : State) : Bool := decide (s.ready.state = .faulted)

/-- The Step Engine drives a line on or off; the drive is dropped during FAULTED holding (R125, R130). -/
def driveLine (l : Fin 4) (on : Bool) (s : State) : State :=
  { s with
    outputs :=
      { s.outputs with
        lines := if faultHolding s then s.outputs.lines else alter s.outputs.lines l fun _ => { on, driven := true } } }

end Sys2Proof.Machine
end

