-- ==== Sys2Proof/Machine/Limits.lean ====
section
/-! DEFINITION. The proportional split, the derate curve, the role terms, the applied brake power and the limit derivation (R56, R80 to R84, R158, R167, R172, R176). -/

namespace Sys2Proof.Machine

/-! ## The proportional split (R56) -/

/-- The remainder of a split handed out one unit each to the stations of nonzero weight, in order (R56, step 3). Each entry is a weight and its truncated share. -/
def handOut : Nat → List (Nat × Nat) → List Nat
  | _, [] => []
  | 0, (_, share) :: rest => share :: handOut 0 rest
  | r + 1, (w, share) :: rest => if w = 0 then share :: handOut (r + 1) rest else (share + 1) :: handOut r rest

/-- The truncated shares of a total over weights (R56, step 2). -/
def baseShares (total : Nat) (weights : List Nat) : List Nat := weights.map fun w => total * w / weights.sum

/-- The proportional split of a total over weights taken in station order; a station outside the set has weight 0 (R56). -/
def split (total : Nat) (weights : List Nat) : List Nat :=
  if weights.sum = 0 then weights.map fun _ => 0
  else handOut (total - (baseShares total weights).sum) (weights.zip (baseShares total weights))

/-! ## The derate curve (R82) -/

/-- The curve factor beyond the point `p`, over the points that follow it. -/
def curveFrom (p : CurvePoint) : List CurvePoint → Int → Int
  | [], _ => p.f
  | q :: rest, x =>
    if x < q.x then p.f + (((q.f : Int) - p.f) * (x - p.x)).tdiv (q.x - p.x) else curveFrom q rest x

/-- The curve factor for an input figure (R82). Points that do not ascend, which a derivation before LOCK can meet, are taken in their order: the first point is tested, and then the first next point above x is looked for (DESIGN CHOICE, notes/assumptions/58.md). -/
def curveFactor (points : List CurvePoint) (x : Int) : Int :=
  match points with
  | [] => 1000
  | p :: rest => if x < p.x then p.f else curveFrom p rest x

/-- The points of the curve in use (R199). -/
def curvePoints (k : Items) : List CurvePoint := k.curve.toList.take k.curveCount

/-- The points have strictly ascending x (R82, R200). -/
def ascending : List CurvePoint → Bool
  | [] => true
  | [_] => true
  | p :: q :: rest => decide (p.x < q.x) && ascending (q :: rest)

/-- The curve input figure of the node's role; a role without one gives none (R80). -/
def curveInput (s : State) : Option Int :=
  match s.role with
  | .none => none
  | .demand => none
  | .genset => some (s.filtered 1)
  | .pack => some (s.filtered 1)
  | .traction => some (s.filtered 1)
  | .friction => some s.roles.friction.temp

/-- The curve factor now: 1000 at a node whose role has no curve input (R81). -/
def curveNow (s : State) : Nat :=
  match curveInput s with
  | none => 1000
  | some x => (curveFactor (curvePoints s.items) x).toNat

/-- The limit factor: the smallest of the curve factor, the wear factor and the limit override (R81). -/
def limitFactor (s : State) : Nat := min (curveNow s) (min s.wear.factor s.ready.limitOverride)

/-! ## Role terms (R83) -/

/-- The pack's discharge factor (R158). -/
def dischargeFactor (soc socLow : Nat) : Nat := if socLow ≤ soc then 1000 else soc * 1000 / socLow

/-- The pack's charge factor (R158). -/
def chargeFactor (soc : Nat) : Nat := if soc ≤ 900 then 1000 else (1000 - soc) * 10

/-- The regeneration limit's two terms: torque bound, then low-speed fade (R167). -/
def regenTerms (t : TractionItems) (speed rm : Nat) : Nat :=
  let bound := min rm (t.torqueMax * speed * 10 / 9549)
  if 0 < t.fadeSpeed ∧ speed < t.fadeSpeed then bound * speed / t.fadeSpeed else bound

/-- Limit A from its rated figure, under a limit factor and the role's terms (R83, R158). -/
def derivedA (s : State) (factor : Nat) : Nat :=
  match s.role with
  | .none => 0
  | .demand => 0
  | .genset => s.items.ratedA * factor / 1000
  | .pack => s.items.ratedA * factor / 1000 * dischargeFactor s.roles.pack.soc s.items.sharing.socLow / 1000
  | .traction => s.items.ratedA * factor / 1000
  | .friction => s.items.ratedA * factor / 1000

/-- Limit B from its rated figure, under a limit factor and the role's terms (R83, R158, R167). -/
def derivedB (s : State) (factor : Nat) : Nat :=
  match s.role with
  | .none => 0
  | .demand => 0
  | .genset => 0
  | .pack => s.items.ratedB * factor / 1000 * chargeFactor s.roles.pack.soc / 1000
  | .traction => regenTerms s.items.traction (s.speed .c0) (s.items.ratedB * factor / 1000)
  | .friction => 0

/-- Both posted limits are 0: readiness neither READY nor DERATED, or output A in shutdown (R83). -/
def limitsClosed (s : State) : Bool := !s.available || s.outputs.a.inShutdown

/-! ## The friction brake's applied power (R172, R176) -/

/-- The isolation fallback (R176). -/
def fallbackBrake (s : State) : Nat :=
  if s.share.held < 0 then
    min s.ready.limitA ((-s.share.held).toNat * s.items.sharing.distribution[s.self] / 1000)
  else 0

/-- The node's grant in a plan, 0 if absent (R66). -/
def grantOf (b : PlanBody) (i : Station) : Int := (b.grants[i]).getD 0

/-- The applied brake power (R172). -/
def appliedBrake (s : State) : Nat :=
  if s.link.state = .isolated then fallbackBrake s
  else
    match s.share.plan with
    | none => 0
    | some p =>
      if p.body.mode = .braking then min s.ready.limitA ((grantOf p.body s.self).toNat + s.roles.friction.ownPart) else 0

/-- The duty of R172 for an applied brake power. -/
def brakeDuty (s : State) (applied : Nat) : Int :=
  if 0 < s.items.ratedA then
    (s.items.dutyLo : Int) + ((applied : Int) * ((s.items.dutyHi : Int) - s.items.dutyLo)).tdiv s.items.ratedA
  else s.items.dutyLo

/-- Stop hold holds and readiness is READY or DERATED: output A's duty is the hold duty (R175). -/
def holdsStop (s : State) : Bool := s.roles.friction.stopHold && s.available

/-- The duty a FRICTION node's output A carries as its conditions stand: the hold duty under stop hold, otherwise the duty of R172 (R172, R175). -/
def writeFriction (s : State) : State :=
  writeA (if holdsStop s then (s.items.friction.holdDuty : Int) else brakeDuty s s.roles.friction.applied) s

/-- The applied brake power formed anew and, unless stop hold applies, its duty written (R172, R175). -/
def formBrake (s : State) : State :=
  let t := { s with roles := { s.roles with friction := { s.roles.friction with applied := appliedBrake s } } }
  if holdsStop t then t else writeA (brakeDuty t t.roles.friction.applied) t

/-- The applied brake power formed anew at a FRICTION node; nothing at another role. -/
def formBrakeHere (s : State) : State := if s.role = .friction then formBrake s else s

/-! ## Limit derivation (R81, R83, R84) -/

/-- The readiness a limit derivation leaves: DERATED below a factor of 1000, READY at 1000 (R84). -/
def deratedBy (factor : Nat) (r : Readiness) : Readiness :=
  match r with
  | .ready => if factor < 1000 then .derated else .ready
  | .derated => if factor < 1000 then .derated else .ready
  | r => r

/-- The limit factor and the posted limits derived anew, and readiness moved between READY and DERATED (R81, R83, R84). -/
def withLimits (s : State) : State :=
  let factor := limitFactor s
  { s with
    ready :=
      { s.ready with
        state := deratedBy factor s.ready.state, factor,
        limitA := if limitsClosed s then 0 else derivedA s factor,
        limitB := if limitsClosed s then 0 else derivedB s factor } }

/-- A limit derivation with what follows it at a FRICTION node: a change of the posted Fmax forms the applied brake power anew (R81, R172). -/
def deriveLimits (s : State) : State :=
  let t := withLimits s
  if t.ready.limitA ≠ s.ready.limitA then formBrakeHere t else t

end Sys2Proof.Machine
end

