-- ==== Sys2Proof/Machine/WearOps.lean ====
section
/-! DEFINITION. The Wear Unit's operations: segments and gates, accrual, the states of records, warning sources, the queue and the WARN frame (R180 to R194). -/

namespace Sys2Proof.Machine

/-! ## Kinds (R181) -/

/-- The direction a kind gives (R181). -/
def kindDirection : WearKind → Direction
  | .coolantTemp => .levelHighBad | .packTemp => .levelHighBad | .motorTemp => .levelHighBad | .liningTemp => .levelHighBad
  | .liningThickness => .levelLowBad
  | .runTime => .rising | .starts => .rising | .failedStarts => .rising | .highLoadTime => .rising | .throughput => .rising
  | .deepDischarges => .rising | .hotTime => .rising | .driveEnergy => .rising | .regenEnergy => .rising
  | .liningEnergy => .rising | .holdApplies => .rising | .pedalDisagree => .rising | .bothPedals => .rising

/-- The kinds a slot may take at a role (R181). -/
def kindAllowed (r : Role) (k : WearKind) : Bool :=
  match k with
  | .runTime => true
  | .starts => r == .genset | .failedStarts => r == .genset | .highLoadTime => r == .genset | .coolantTemp => r == .genset
  | .throughput => r == .pack | .deepDischarges => r == .pack | .packTemp => r == .pack
  | .hotTime => r == .pack || r == .traction
  | .driveEnergy => r == .traction | .regenEnergy => r == .traction | .motorTemp => r == .traction
  | .liningEnergy => r == .friction | .liningTemp => r == .friction | .liningThickness => r == .friction
  | .holdApplies => r == .friction
  | .pedalDisagree => r == .demand | .bothPedals => r == .demand

/-- The record a loading of a kind leaves (R180): value, carry and stamp 0, CLEAR, the other items at their defaults. Its gate is false, and a HOT TIME or HIGH LOAD TIME gate is first judged at the next measurement event (DESIGN CHOICE, notes/assumptions/57.md). -/
def freshRecord (k : WearKind) : WearRecord :=
  let far : Int :=
    match kindDirection k with
    | .rising => 4294967295
    | .levelHighBad => 2147483647
    | .levelLowBad => -2147483648
  { kind := k, value := 0, watch := far, alarm := far, hysteresis := 0, watchFactor := 1000, alarmFactor := 1000, hot := 32767,
    carry := 0, gate := 0, state := .clear, stamp := 0 }

/-! ## Segments and gates (R183) -/

/-- What a closing segment of `e` µs adds to a record's carry, by the gate that stood over it (R183). -/
def segmentCarry (e : Nat) (r : WearRecord) : Nat :=
  match r.kind with
  | .runTime => if r.gate = 1 then e else 0
  | .highLoadTime => if r.gate = 1 then e else 0
  | .hotTime => if r.gate = 1 then e else 0
  | .driveEnergy => if 0 < r.gate then r.gate.toNat * e else 0
  | .regenEnergy => if r.gate < 0 then (-r.gate).toNat * e else 0
  | _ => 0

/-- The length of the segment opened at a count, modulo 2^24 and at most 1,000,000 µs (R183). -/
def segmentLength (now opened : Micros) : Nat := min Config.longestSegment (now - opened).toNat

/-- The records of all slots changed by one function. -/
def mapRecords (f : WearRecord → WearRecord) (slots : Vector (Option WearRecord) 12) : Vector (Option WearRecord) 12 :=
  Vector.ofFn fun i => (slots[i]).map f

/-- The open segment closed and a new one opened at once; nothing while none is open (R183). -/
def closeSegment (s : State) : State :=
  { s with
    wear :=
      match s.wear.segment with
      | none => s.wear
      | some opened =>
        { s.wear with
          slots :=
            mapRecords (fun r => { r with carry := r.carry + segmentCarry (segmentLength s.capture.micros opened) r }) s.wear.slots
          segment := some s.capture.micros } }

/-- High-load judgement: actual × 1000 at or above 800 × rated power, with rated power above 0 (R183). -/
def highLoad (s : State) : Bool :=
  decide (0 < s.items.ratedA) && decide (800 * (s.items.ratedA : Int) ≤ s.roles.genset.actual * 1000)

/-- The gate a record has as things stand. `judge` says whether this is a measurement event, at which the high-load and hot judgements are made; otherwise they stand as they are (R183). -/
def gateNow (s : State) (judge : Bool) (r : WearRecord) : Int :=
  match r.kind with
  | .runTime => if s.available then 1 else 0
  | .highLoadTime => if judge then (if highLoad s then 1 else 0) else r.gate
  | .hotTime => if judge then (if r.hot ≤ s.filtered 1 then 1 else 0) else r.gate
  | .driveEnergy => s.roles.traction.applied
  | .regenEnergy => s.roles.traction.applied
  | _ => 0

/-- Some record's gate changes. -/
def gatesChange (s : State) (judge : Bool) : Bool :=
  s.wear.slots.toList.any fun x =>
    match x with
    | none => false
    | some r => decide (gateNow s judge r ≠ r.gate)

/-- The gates taken as they now stand; a change closes the open segment first (R183). -/
def refreshGates (judge : Bool) (s : State) : State :=
  let t := if gatesChange s judge then closeSegment s else s
  { t with wear := { t.wear with slots := mapRecords (fun r => { r with gate := gateNow s judge r }) t.wear.slots } }

/-! ## Warning sources (R191, R192, R194) -/

/-- A change entered into the queue: an entry of the source is updated in place, and a new one is appended as the newest (R192). -/
def enqueue (e : WarnEntry) (q : List WarnEntry) : List WarnEntry :=
  if q.any fun x => decide (x.source = e.source) then q.map fun x => if x.source = e.source then e else x else q ++ [e]

/-- The WARN frame composed from the sources as they stand and placed; the refresh count is set to 0, placed or dropped (R194). -/
def placeWarn (s : State) : State :=
  place .warn (warnPayload (ownWarnGroup s.wear)) { s with wear := { s.wear with refresh := 0 } }

/-- What follows a change of a warning source's state: queue and WEAR attention, the self-entry's WARN group rewritten, and in a locked state a WARN frame (R191, R192, R194). -/
def sourceChanged (src : Source) (l : Level) (s : State) : State :=
  let e : WarnEntry := { source := src, level := l, stamp := s.round.count }
  let appended := !(s.wear.queue.any fun x => decide (x.source = src))
  let t := raiseIf appended .wear
    { s with wear := { s.wear with queue := enqueue e s.wear.queue, rewritten := s.round.count } }
  if s.locked then placeWarn t else t

/-- DEFICIT reported: ALARM for a deficit above 0, CLEAR for 0; a report of the state held is no change (R65, R191). -/
def reportDeficit (on : Bool) (s : State) : State :=
  if s.wear.deficit.alarm = on then s
  else
    sourceChanged .deficit (if on then .alarm else .clear)
      { s with wear := { s.wear with deficit := { alarm := on, stamp := s.round.count } } }

/-- ISOLATION reported (R19, R20, R191). -/
def reportIsolation (on : Bool) (s : State) : State :=
  if s.wear.isolation.alarm = on then s
  else
    sourceChanged .isolation (if on then .alarm else .clear)
      { s with wear := { s.wear with isolation := { alarm := on, stamp := s.round.count } } }

/-! ## The wear factor (R188) -/

/-- The factor a record supplies: its watch factor in WATCH, its alarm factor in ALARM (R188). -/
def recordFactor (r : Option WearRecord) : Nat :=
  match r with
  | none => 1000
  | some w =>
    match w.state with
    | .clear => 1000
    | .watch => w.watchFactor
    | .alarm => w.alarmFactor

/-- The wear factor: the lowest of the records' factors, or 1000 (R188). -/
def wearFactor (w : Wear) : Nat := w.slots.toList.foldl (fun f r => min f (recordFactor r)) 1000

/-- The wear factor formed anew and, if it changed, handed to the Readiness Controller (R188). -/
def reformFactor (s : State) : State :=
  if wearFactor s.wear = s.wear.factor then s
  else deriveLimits { s with wear := { s.wear with factor := wearFactor s.wear } }

/-! ## States of records (R186, R187) -/

/-- A RISING record judged: it moves up and never down (R186). A value at the top of its range reaches even thresholds that were never loaded (DESIGN CHOICE, notes/assumptions/53.md). -/
def judgeRising (r : WearRecord) : Level :=
  if r.alarm ≤ r.value ∧ r.state ≠ .alarm then .alarm
  else if r.watch ≤ r.value ∧ r.state = .clear then .watch
  else r.state

/-- A level record judged in the direction in which higher is worse: state, value, thresholds and hysteresis (R187). -/
def judgeLevel (state : Level) (v watch alarm h : Int) : Level :=
  match state with
  | .clear => if alarm ≤ v then .alarm else if watch ≤ v then .watch else .clear
  | .watch => if alarm ≤ v then .alarm else if v < watch - h then .clear else .watch
  | .alarm => if v < alarm - h then (if watch - h ≤ v then .watch else .clear) else .alarm

/-- A record judged by its direction; LEVEL-LOW-BAD is the mirror image of LEVEL-HIGH-BAD (R186, R187). -/
def judgeRecord (r : WearRecord) : Level :=
  match kindDirection r.kind with
  | .rising => judgeRising r
  | .levelHighBad => judgeLevel r.state r.value r.watch r.alarm r.hysteresis
  | .levelLowBad => judgeLevel r.state (-r.value) (-r.watch) (-r.alarm) r.hysteresis

/-- A slot's record given a state: a change stamps it, reports the source and forms the wear factor anew (R188). -/
def setLevel (i : Fin 12) (l : Level) (s : State) : State :=
  match s.wear.slots[i] with
  | none => s
  | some r =>
    if r.state = l then s
    else
      reformFactor
        (sourceChanged (.slot i) l
          { s with
            wear := { s.wear with slots := alter s.wear.slots i fun _ => some { r with state := l, stamp := s.round.count } } })

/-- A slot judged (R186, R187). -/
def judgeSlot (i : Fin 12) (s : State) : State :=
  match s.wear.slots[i] with
  | none => s
  | some r => setLevel i (judgeRecord r) s

/-- The slots that a test picks judged, from slot 0 to slot 11 (DESIGN CHOICE, notes/assumptions/54.md). -/
def judgeSlots (pick : Fin 12 → Bool) (s : State) : State :=
  allSlots.foldl (fun t i => if pick i then judgeSlot i t else t) s

/-- A slot holds a record that a test picks. -/
def slotHas (s : State) (p : WearRecord → Bool) (i : Fin 12) : Bool :=
  match s.wear.slots[i] with
  | none => false
  | some r => p r

/-- Records that a test picks changed, then judged if readiness is locked. -/
def updateRecords (pick : WearRecord → Bool) (f : WearRecord → WearRecord) (s : State) : State :=
  let t := { s with wear := { s.wear with slots := mapRecords (fun r => if pick r then f r else r) s.wear.slots } }
  if s.locked then judgeSlots (slotHas s pick) t else t

/-! ## Accrual (R182 to R185) -/

/-- A RISING value raised; it stays at 4,294,967,295 (R182, R184). -/
def raiseValue (n : Nat) (v : Int) : Int := min Config.wearTop (v + n)

/-- One event of a count kind, in a locked readiness state, in every slot that holds the kind (R182). -/
def countEvent (k : WearKind) (s : State) : State :=
  if s.locked then
    updateRecords (fun r => decide (r.kind = k) && decide (r.value < Config.wearTop))
      (fun r => { r with value := raiseValue 1 r.value }) s
  else s

/-- The carry that makes one unit of the value, for the kinds that accrue over segments (R183). -/
def carryUnit : WearKind → Option Nat
  | .runTime => some 1000 | .highLoadTime => some 1000 | .hotTime => some 1000
  | .driveEnergy => some 10000000 | .regenEnergy => some 10000000
  | _ => none

/-- A record with the whole units of its carry added to its value (R183). -/
def foldCarry (unit : Nat) (r : WearRecord) : WearRecord :=
  { r with value := raiseValue (r.carry / unit) r.value, carry := r.carry % unit }

/-- The carries of the time and energy records folded into their values at a plan completion, and the changed records judged (R183). -/
def foldCarries (s : State) : State :=
  let t :=
    { s with
      wear :=
        { s.wear with
          slots :=
            mapRecords
              (fun r =>
                match carryUnit r.kind with
                | none => r
                | some u => foldCarry u r)
              s.wear.slots } }
  let changed (r : WearRecord) : Bool :=
    match carryUnit r.kind with
    | none => false
    | some u => decide ((foldCarry u r).value ≠ r.value)
  judgeSlots (slotHas s changed) t

/-- A figure added to the carry of every record of a kind, thousands of it to the value; the records whose value changed are judged (R184). -/
def addFigure (k : WearKind) (n : Nat) (s : State) : State :=
  let f (r : WearRecord) : WearRecord := foldCarry 1000 { r with carry := r.carry + n }
  let t :=
    { s with wear := { s.wear with slots := mapRecords (fun r => if r.kind = k then f r else r) s.wear.slots } }
  judgeSlots (slotHas s fun r => decide (r.kind = k) && decide ((f r).value ≠ r.value)) t

/-- A reading taken as the value of every record of the given kinds; in a locked state each is judged (R185). -/
def takeReading (kinds : List WearKind) (v : Int) (s : State) : State :=
  updateRecords (fun r => kinds.contains r.kind) (fun r => { r with value := v }) s

/-- The pack's SOC judged for DEEP DISCHARGES (R182). -/
def judgeSoc (soc : Nat) (s : State) : State :=
  let t := { s with wear := { s.wear with lowMark := decide (soc < 150) } }
  if decide (soc < 150) && !s.wear.lowMark then countEvent .deepDischarges t else t

end Sys2Proof.Machine
end

