-- ==== Sys2Proof/Machine/Readiness.lean ====
section
/-! DEFINITION. The applied grant of a TRACTION node, changes of readiness, the Step Engine's lists and the entry to FAULTED (R69 to R79, R85 to R96, R168, R169). -/

namespace Sys2Proof.Machine

/-! ## The applied grant, the torque command and its duty (R168, R169) -/

/-- A cease window of either kind is open. -/
def anyCease (s : State) : Bool := decide (0 < s.share.traction.left) || decide (0 < s.share.link.left)

/-- The applied grant: the own grant of the latest plan, or 0 while a condition of R168 withholds it. From the link's return out of ISOLATED to the next plan completion it is 0 too (R170; that no other condition's change in between applies the plan held is DEDUCED, notes/assumptions/51.md). -/
def appliedGrant (s : State) : Int :=
  if !s.available || anyCease s || decide (s.link.state = .isolated) || s.roles.traction.awaiting then 0
  else
    match s.share.plan with
    | none => 0
    | some p => p.ownGrant

/-- The torque command for a power and a speed (R169). -/
def torqueOf (t : TractionItems) (power : Int) (speed : Nat) : Int :=
  let magnitude : Int := (min (power.natAbs * 9549 / (10 * max speed t.rpmFloor)) t.torqueMax : Nat)
  if power < 0 then -magnitude else magnitude

/-- Output A's duty for a torque command (R169). -/
def torqueDuty (s : State) (torque : Int) : Int :=
  let t : Int := s.items.traction.torqueMax
  s.items.dutyLo + ((torque + t) * ((s.items.dutyHi : Int) - s.items.dutyLo)).tdiv (2 * t)

/-- The torque command formed anew from the applied grant and the speed figure of C0, and its duty written (R169). -/
def formTorque (s : State) : State :=
  let torque := torqueOf s.items.traction s.roles.traction.applied (s.speed .c0)
  writeA (torqueDuty s torque) { s with roles := { s.roles with traction := { s.roles.traction with torque } } }

/-- The applied grant formed anew, with its torque command and duty; a new applied grant is a change of a wear gate (R168, R169, R183). -/
def formGrant (s : State) : State :=
  formTorque
    (refreshGates false
      { s with roles := { s.roles with traction := { s.roles.traction with applied := appliedGrant s } } })

/-- The applied grant of a TRACTION node as a change of its conditions leaves it: a new one is formed with its torque command and duty, and where it stays as it was the torque command and the duty stand (R168, R169; DEDUCED, notes/assumptions/55.md). Nothing at another role. -/
def formGrantHere (s : State) : State :=
  if s.role = .traction ∧ appliedGrant s ≠ s.roles.traction.applied then formGrant s else s

/-! ## Changes of readiness (R77) -/

/-- The limit override after an entry to a readiness: back to 1000 on entry to OFFLINE and FAULTED (R88). -/
def overrideAt (r : Readiness) (old : Nat) : Nat :=
  match r with
  | .offline => 1000
  | .faulted => 1000
  | .unconfigured => old | .standby => old | .starting => old | .ready => old | .derated => old | .stopping => old

/-- The Demand Role at a change of readiness: the result and the ramp base are 0 outside READY and DERATED, so the ramp starts from 0 at the first computation after engaging (R136, R140; that they are 0 at once, and not from the next computation on, is DEDUCED, notes/assumptions/48.md). -/
def restDemand (r : Readiness) (s : State) : DemandRole :=
  if s.available && isAvailable r then s.roles.demand else { s.roles.demand with result := 0, rampBase := 0 }

/-- Readiness set, with the limit override and the Demand Role as the change leaves them (R69, R88, R140). -/
def withReadiness (r : Readiness) (s : State) : State :=
  { s with
    ready := { s.ready with state := r, limitOverride := overrideAt r s.ready.limitOverride }
    roles := { s.roles with demand := restDemand r s } }

/-- Readiness set, and the blocks that R77 names told of it: the Demand Role, the applied grant, the limits, the friction duty, the wear gates, the zero-power gate. -/
def setReadiness (r : Readiness) (s : State) : State :=
  gated
    (fun u =>
      let t := deriveLimits (formGrantHere (withReadiness r u))
      let t := if t.role = .friction ∧ t.roles.friction.stopHold = true ∧ isAvailable r ≠ u.available then writeFriction t else t
      refreshGates false t)
    s

/-! ## Pulses and the end of a list (R89, R94, R95) -/

/-- A discrete line's pulse count set. -/
def setPulse (l : Fin 4) (k : Nat) (s : State) : State :=
  { s with engine := { s.engine with pulses := alter s.engine.pulses l fun _ => k } }

/-- The discrete line numbers. -/
def allLines : List (Fin 4) := [0, 1, 2, 3]

/-- Every running pulse stopped and each pulsing line driven off (R94). -/
def dropPulses (s : State) : State :=
  allLines.foldl (fun t l => if 0 < t.engine.pulses[l] then driveLine l false (setPulse l 0 t) else t) s

/-- One line's pulse count lowered at a boundary; a count reaching 0 drives the line off (R89). -/
def stepPulse (l : Fin 4) (s : State) : State :=
  if s.engine.pulses[l] = 0 then s
  else
    let t := setPulse l (s.engine.pulses[l] - 1) s
    if s.engine.pulses[l] = 1 then driveLine l false t else t

/-- Every pulse count stepped at a boundary (R89). -/
def stepPulses (s : State) : State := allLines.foldl (fun t l => stepPulse l t) s

/-- A running list abandoned, with its STEP attention; nothing while no list runs (R95). -/
def abandonList (s : State) : State :=
  match s.engine.list with
  | none => s
  | some name =>
    raise .step
      { s with
        engine :=
          { s.engine with
            list := none, stack := [], wait := .none, holdsA := false, pulses := Vector.ofFn fun _ => 0,
            outcome := some { list := name, verdict := .abandoned, cause := none, failStep := none } } }

/-! ## FAULTED (R74, R125) -/

/-- FAULTED holding begun: both pins in their shutdown states and the discrete lines at their safe states (R125, R130). -/
def beginHolding (s : State) : State :=
  { s with
    outputs :=
      { s.outputs with
        a := { s.outputs.a with pin := .shutdown }
        b := { s.outputs.b with pin := .shutdown }
        lines := Vector.ofFn fun l => { on := s.items.discretes[l].safeOn, driven := false } } }

/-- A fault cause added: on entry to FAULTED a running list is abandoned, the stop destination becomes OFFLINE and FAULTED holding begins; in FAULTED only the cause is added (R73, R74). -/
def enterFaulted (add : Causes → Causes) (s : State) : State :=
  let t := { s with ready := { s.ready with causes := add s.ready.causes } }
  if s.ready.state = .faulted then t
  else
    let t := abandonList t
    beginHolding (setReadiness .faulted { t with ready := { t.ready with stopDest := .offline } })

/-! ## What a list's end does to readiness (R73) -/

/-- STARTING left for READY, or DERATED by the limit derivation; at a GENSET node the retry count and the on count are zeroed (R71, R73). -/
def entryReady (s : State) : State :=
  let t := if s.role = .genset then { s with ready := { s.ready with startRetries := 0, onCount := 0 } } else s
  setReadiness .ready t

/-- An ENTRY list ended FAILED (R73). -/
def entryFailed (s : State) : State :=
  if s.role = .genset then
    let t := countEvent .failedStarts s
    if s.ready.startRetries < s.items.startRetries then
      setReadiness .standby { t with ready := { t.ready with startRetries := t.ready.startRetries + 1, gapCount := 0 } }
    else enterFaulted (fun c => { c with start := true }) t
  else enterFaulted (fun c => { c with start := true }) s

/-- STOPPING left for the stop destination (R73). -/
def stopArrived (s : State) : State :=
  match s.ready.stopDest with
  | .offline => setReadiness .offline { s with ready := { s.ready with startRetries := 0 } }
  | .standby => setReadiness .standby { s with ready := { s.ready with offCount := 0 } }

/-- A list's verdict taken by the Readiness Controller (R73). -/
def takeVerdict (name : ListName) (ok : Bool) (s : State) : State :=
  match s.ready.state, name, ok with
  | .starting, .entry, true => entryReady s
  | .starting, .entry, false => entryFailed s
  | .stopping, .exit, true => stopArrived s
  | .stopping, .exit, false => enterFaulted (fun c => { c with stop := true }) s
  | _, _, _ => s

/-- The running list ends: READY when no fail cause is given, FAILED otherwise (R94). -/
def endList (fail : Option FailCause) (s : State) : State :=
  match s.engine.list with
  | none => s
  | some name =>
    let t :=
      { s with
        engine :=
          { s.engine with
            list := none, stack := [], wait := .none, holdsA := false,
            outcome :=
              some
                { list := name, verdict := if fail.isNone then .ready else .failed, cause := fail,
                  failStep := if fail.isNone then none else some s.engine.pointer } } }
    let t := if fail.isNone then t else dropPulses t
    raise .step (takeVerdict name fail.isNone t)

/-! ## Steps (R85, R88 to R93) -/

/-- A condition as it stands (R85). -/
def holdsCondition (s : State) : Condition → Bool
  | .channelAtLeast c t => decide (t ≤ s.filtered c)
  | .channelAtMost c t => decide (s.filtered c ≤ t)
  | .speedAtLeast c v => decide (v ≤ s.speed c)
  | .speedAtMost c v => decide (s.speed c ≤ v)
  | .inputHigh i => s.pins.inputs.getLsbD i.val
  | .inputLow i => !s.pins.inputs.getLsbD i.val
  | .roundMatch m v => decide ((s.round.count.setWidth 16) &&& m = v &&& m)

/-- A HOLD passes: its condition is true, and output A is not in shutdown or the ignore-shutdown flag is set (R90). -/
def holdPasses (s : State) (c : Condition) (ignore : Bool) : Bool :=
  holdsCondition s c && (!s.outputs.a.inShutdown || ignore)

/-- The step pointer moved on by `k`; past step 63 the list fails with cause INDEX at the step that moved it (R93). The mark says that the turn goes on. -/
def goOn (k : Nat) (s : State) : State × Bool :=
  if h : s.engine.pointer.val + k < 64 then ({ s with engine := { s.engine with pointer := ⟨s.engine.pointer.val + k, h⟩ } }, true)
  else (endList (some .index) s, false)

/-- The step pointer moved to a target (R93). -/
def jumpTo (target : Nat) (s : State) : State × Bool :=
  if h : target < 64 then ({ s with engine := { s.engine with pointer := ⟨target, h⟩ } }, true)
  else (endList (some .index) s, false)

/-- A SET carried out (R88). -/
def carrySet (target : SetTarget) (s : State) : State × Bool :=
  match target with
  | .outputB v => goOn 1 { s with outputs := { s.outputs with b := { s.outputs.b with pending := v } } }
  | .lineOn l => goOn 1 (driveLine l true (setPulse l 0 s))
  | .lineOff l => goOn 1 (driveLine l false (setPulse l 0 s))
  | .outputA v =>
    if s.role = .traction ∨ s.role = .genset ∨ s.items.protectedTargets = false then (endList (some .protected_) s, false)
    else
      goOn 1
        { s with
          outputs := { s.outputs with a := { s.outputs.a with pending := intoMap s v } }
          engine := { s.engine with holdsA := true } }
  | .limitOverride v =>
    if s.items.protectedTargets = false then (endList (some .protected_) s, false)
    else goOn 1 (deriveLimits { s with ready := { s.ready with limitOverride := v } })

/-- One step carried out at the step pointer; the mark says that the turn goes on (R87 to R93). A CALL that finds the stack full and has a bad target, or stands at step 63, fails with STACK: the manual gives the two causes no precedence (DESIGN CHOICE, notes/assumptions/41.md). -/
def carryOut (st : Step) (s : State) : State × Bool :=
  match st with
  | .set target => carrySet target s
  | .pulse l k =>
    let keep := decide (0 < s.engine.pulses[l]) && !s.items.discretes[l].retrigger
    goOn 1 (driveLine l true (if keep then s else setPulse l k s))
  | .hold c timeout ignore =>
    if holdPasses s c ignore then goOn 1 s else ({ s with engine := { s.engine with wait := .hold timeout } }, false)
  | .skip c => goOn (if holdsCondition s c then 2 else 1) s
  | .pause k => ({ s with engine := { s.engine with wait := .pause k } }, false)
  | .call target =>
    if Config.stackDepth ≤ s.engine.stack.length then (endList (some .stack) s, false)
    else if h : s.engine.pointer.val + 1 < 64 ∧ target < 64 then
      ({ s with
          engine := { s.engine with stack := ⟨s.engine.pointer.val + 1, h.1⟩ :: s.engine.stack, pointer := ⟨target, h.2⟩ } }, true)
    else (endList (some .index) s, false)
  | .ret =>
    match s.engine.stack with
    | [] => (endList (some .stack) s, false)
    | top :: rest => ({ s with engine := { s.engine with stack := rest, pointer := top } }, true)
  | .jump target => jumpTo target s
  | .end_ ready => (endList (if ready then none else some .end_) s, false)

/-- A turn of at most `n` steps (R87). -/
def runTurn : Nat → State → State
  | 0, s => s
  | n + 1, s =>
    match s.engine.list with
    | none => s
    | some _ =>
      let (t, more) := carryOut s.engine.memory[s.engine.pointer] s
      if more then runTurn n t else t

/-- The start index of a list (R85). -/
def startOf (k : Items) (name : ListName) : Option (Fin 64) :=
  match name with
  | .entry => k.entryStart
  | .exit => k.exitStart

/-- The budget of a list (R87). -/
def budgetOf (k : Items) (name : ListName) : Nat :=
  match name with
  | .entry => k.entryBudget
  | .exit => k.exitBudget

/-- A list started, with its start turn at once; nothing for a list that is not configured (R86, R87). -/
def startList (name : ListName) (s : State) : State :=
  match startOf s.items name with
  | none => s
  | some i =>
    runTurn Config.turnSteps
      { s with
        engine :=
          { s.engine with
            list := some name, pointer := i, stack := [], budget := 0, wait := .none,
            outcome := some { list := name, verdict := .running, cause := none, failStep := none } } }

/-! ## A boundary's turn (R87, R90, R92) -/

/-- The step at the pointer passes over to the next and the turn goes on with at most `n` steps. -/
def releaseStep (n : Nat) (s : State) : State :=
  let (t, more) := goOn 1 { s with engine := { s.engine with wait := .none } }
  if more then runTurn n t else t

/-- A waiting HOLD evaluated again; its evaluation counts as the turn's first step (R90). -/
def stepHold (left : Nat) (s : State) : State :=
  match s.engine.memory[s.engine.pointer] with
  | .hold c _ ignore =>
    if holdPasses s c ignore then releaseStep (Config.turnSteps - 1) s
    else if left ≤ 1 then endList (some .timeout) s
    else { s with engine := { s.engine with wait := .hold (left - 1) } }
  | _ => s

/-- A PAUSE lowered; at 0 the turn goes on from the step after it (R92). -/
def stepPause (left : Nat) (s : State) : State :=
  if left ≤ 1 then releaseStep Config.turnSteps s else { s with engine := { s.engine with wait := .pause (left - 1) } }

/-- The wait of the current step stepped, and the turn carried out (R87). -/
def stepWait (s : State) : State :=
  match s.engine.wait with
  | .none => runTurn Config.turnSteps s
  | .hold left => stepHold left s
  | .pause left => stepPause left s

/-- The boundary's turn of a running list: budget, wait, steps (R87). -/
def boundaryTurn (s : State) : State :=
  match s.engine.list with
  | none => s
  | some name =>
    let t := { s with engine := { s.engine with budget := s.engine.budget + 1 } }
    if t.engine.budget = budgetOf s.items name then endList (some .budget) t else stepWait t

/-! ## Engaging and disengaging (R71, R72, R78, R79) -/

/-- STARTING entered and the ENTRY list started; at a GENSET node one start is reported (R71, R73, R78). -/
def beginStarting (s : State) : State :=
  let t := setReadiness .starting s
  startList .entry (if t.role = .genset then countEvent .starts t else t)

/-- STOPPING entered with a stop destination and the EXIT list started (R72, R79). -/
def beginStopping (dest : StopDest) (s : State) : State :=
  startList .exit (setReadiness .stopping { s with ready := { s.ready with stopDest := dest } })

/-- An ENGAGE in OFFLINE (R71). -/
def doEngage (s : State) : State :=
  if s.role = .genset then
    setReadiness .standby
      { s with ready := { s.ready with offCount := s.items.minOff, gapCount := s.items.retryGap, startRetries := 0 } }
  else beginStarting s

/-- Auto-engage: an ENGAGE without a command, if readiness is OFFLINE and the item is set (R71, R76). -/
def autoEngage (s : State) : State :=
  if s.ready.state = .offline ∧ s.items.autoEngage = true then doEngage s else s

/-- A DISENGAGE in a state that takes it (R72). -/
def doDisengage (s : State) : State :=
  match s.ready.state with
  | .standby => setReadiness .offline s
  | .starting => beginStopping .offline (abandonList s)
  | .ready => beginStopping .offline s
  | .derated => beginStopping .offline s
  | .stopping => { s with ready := { s.ready with stopDest := .offline } }
  | .unconfigured => s
  | .offline => s
  | .faulted => s

/-- The conditions of R78 hold: GENSET in STANDBY, request ON, minimum off time and retry gap elapsed. -/
def mayStart (s : State) : Bool :=
  decide (s.role = .genset) && decide (s.ready.state = .standby) && s.roles.genset.request &&
    decide (s.items.minOff ≤ s.ready.offCount) && decide (s.items.retryGap ≤ s.ready.gapCount)

/-- The conditions of R79 hold: GENSET in READY or DERATED, request OFF, minimum on time elapsed. -/
def mustStop (s : State) : Bool :=
  decide (s.role = .genset) && s.available && !s.roles.genset.request && decide (s.items.minOn ≤ s.ready.onCount)

/-- The generator request tested under R78 and R79. -/
def testRequest (s : State) : State :=
  if mayStart s then beginStarting s else if mustStop s then beginStopping .standby s else s

/-- A node STARTING or STOPPING with no list configured moves on at the boundary (R71, R73). -/
def passWithoutList (s : State) : State :=
  match s.ready.state with
  | .starting => if s.items.entryStart.isNone && s.engine.list.isNone then entryReady s else s
  | .stopping => if s.items.exitStart.isNone && s.engine.list.isNone then stopArrived s else s
  | _ => s

/-- A count raised by one that stops at 65535 (R69). -/
def countUp (n : Nat) : Nat := min Config.countTop (n + 1)

/-- The off, gap and on counts raised at a boundary (R78, R79). -/
def raiseCounts (s : State) : State :=
  { s with
    ready :=
      { s.ready with
        offCount := if s.locked then countUp s.ready.offCount else s.ready.offCount
        gapCount := if s.locked then countUp s.ready.gapCount else s.ready.gapCount
        onCount := if s.role = .genset ∧ s.available = true then countUp s.ready.onCount else s.ready.onCount } }

/-- Readiness is STARTING or STOPPING. -/
def inPassage (s : State) : Bool := decide (s.ready.state = .starting) || decide (s.ready.state = .stopping)

/-- The Readiness Controller's and the Step Engine's part of a boundary: pulses, counts, limits, then the boundary's turn of the list that runs, or the passage without a list, or the test of the generator request (R71, R73, R78, R79, R81, R87). A boundary at which a list ran, even one that ended there, makes no test of the request (DESIGN CHOICE, notes/assumptions/23.md). -/
def readinessBoundary (s : State) : State :=
  let t := deriveLimits (raiseCounts (stepPulses s))
  if s.engine.list.isSome then boundaryTurn t
  else if inPassage s then passWithoutList t
  else testRequest t

end Sys2Proof.Machine
end

