-- ==== Sys2Proof/Machine/OutputOps.lean ====
section
/-! DEFINITION. The Command Output Unit's operations: shutdown entries, triggers, period ends, cease windows and trips, pins (R115 to R133), and the link's changes of state that other blocks are told of. -/

namespace Sys2Proof.Machine

/-! ## Entries and triggers (R119, R120, R122, R126) -/

/-- An output changed in place. -/
def onOutput (n : OutName) (f : Output → Output) (s : State) : State :=
  { s with outputs := s.outputs.put n (f (s.outputs.get n)) }

/-- The own grant of the latest plan, if one is held (R126). -/
def planGrant (s : State) : Option Int := s.share.plan.map fun p => p.ownGrant

/-- The snapshot frozen by an entry of an output, if it is empty (R126). The state given is that just after the entry. -/
def freezeSnapshot (n : OutName) (s : State) : State :=
  { s with
    outputs :=
      { s.outputs with
        snapshot :=
          match s.outputs.snapshot with
          | some r => some r
          | none =>
            some
              { round := s.round.count, output := n, ownGrant := planGrant s, activeA := s.outputs.a.active,
                activeB := s.outputs.b.active, markA := s.outputs.a.inShutdown, markB := s.outputs.b.inShutdown,
                sources := activeSources s, readiness := s.ready.state } } }

/-- The latch of output A reported to the Readiness Controller: FAULTED in a locked state, no effect in UNCONFIGURED (R122). -/
def reportLatch (s : State) : State :=
  if s.locked then enterFaulted (fun c => { c with shutdown := true }) s else s

/-- What an entry or a latch at an output leads to at the Readiness Controller: nothing at output B (R120, R122). -/
def tellReadiness (n : OutName) (entry latched : Bool) (s : State) : State :=
  match n with
  | .b => s
  | .a =>
    let t := if entry then deriveLimits s else s
    if latched then reportLatch t else t

/-- An entry of an output into shutdown (R120). -/
def shutdownEntry (n : OutName) (s : State) : State :=
  let latched := decide ((s.items.output n).restart = .latched)
  let t :=
    onOutput n
      (fun o => { o with source := if latched then .latched else .automatic, inShutdown := true, pin := .shutdown }) s
  tellReadiness n true latched (raise .shutdown (freezeSnapshot n t))

/-- A trigger for an output (R119). -/
def trigger (n : OutName) (s : State) : State :=
  match (s.outputs.get n).source with
  | .none =>
    match (s.items.output n).entry with
    | .immediate => shutdownEntry n s
    | .atPeriodEnd => onOutput n (fun o => { o with source := .entryPending }) s
  | .entryPending => s
  | .automatic =>
    match (s.items.output n).restart with
    | .automatic => s
    | .latched => tellReadiness n false true (onOutput n (fun o => { o with source := .latched }) s)
  | .latched => s

/-- Triggers for the outputs named: for both, in the order the manual leaves open (R126). -/
def triggerBoth (a b : Bool) (s : State) : State :=
  if a && b then
    let (first, t) := takeOrder s
    if first then trigger .b (trigger .a t) else trigger .a (trigger .b t)
  else if a then trigger .a s
  else if b then trigger .b s
  else s

/-- A source becoming active offered to both outputs (R118). `k` is its bit in the enable masks: 0 to 3 for the lines, 4 and 5 for the monitors, 6 for soft (DESIGN CHOICE, notes/assumptions/60.md). -/
def offerSource (k : Nat) (s : State) : State :=
  triggerBoth (s.items.outputA.enable.getLsbD k) (s.items.outputB.enable.getLsbD k) s

/-! ## Period ends (R115, R116, R121) -/

/-- The update of the source shutdown state at a period end: an AUTOMATIC one returns to NONE when every enabled source is inactive, and a pending entry is made (R119, R121). -/
def periodSource (n : OutName) (s : State) : State :=
  match (s.outputs.get n).source with
  | .automatic => if enabledActive s n then s else onOutput n (fun o => { o with source := .none }) s
  | .entryPending => shutdownEntry n s
  | .none => s
  | .latched => s

/-- The output leaves shutdown at this period end (R121). -/
def leaves (o : Output) : Bool := o.inShutdown && decide (o.source = .none) && !o.resetHold

/-- The duty a period end makes active: the pending duty, or at output A the rest duty while the gate holds (R116, R117). -/
def nextDuty (n : OutName) (s : State) : Nat :=
  match n with
  | .a => if gateHolds s then restDuty s else s.outputs.a.pending
  | .b => s.outputs.b.pending

/-- An output's period end after the update of its source shutdown state: the next period starts; an output not in shutdown and not under FAULTED holding runs its next duty (R115, R116, R121, R125). -/
def startPeriod (n : OutName) (s : State) : State :=
  onOutput n
    (fun o =>
      let out := o.inShutdown && !leaves o
      let runs := !out && !faultHolding s
      { o with
        inShutdown := out, pin := if runs then .running else o.pin, active := if runs then nextDuty n s else o.active
        period := (s.items.output n).period, elapsed := 0 })
    s

/-- The period end of an output (R121). The leaving of output A is reported to the Readiness Controller. -/
def doPeriodEnd (n : OutName) (s : State) : State :=
  let t := periodSource n s
  let u := startPeriod n t
  match n with
  | .a => if leaves t.outputs.a then deriveLimits u else u
  | .b => u

/-! ## What a command output's pin shows (R115, R120) -/

/-- The level of a command output's pin. -/
inductive PinLevel where
  | high | low | floating
  deriving DecidableEq, Repr

/-- The level within a period for a duty: high for period × duty / 1000 µs from the start, low until the end (R115). -/
def dutyLevel (o : Output) (duty : Nat) : PinLevel := if o.elapsed < o.period * duty / 1000 then .high else .low

/-- The duty of a SAFE DUTY shutdown: at output A of a TRACTION or GENSET node the rest duty (R120). It is read as the items now stand, so a safe duty or a map end loaded while the pin shows its shutdown state acts at once, inside the running period (DESIGN CHOICE, notes/assumptions/43.md). -/
def safeDutyOf (s : State) (n : OutName) : Nat :=
  match n with
  | .a => if s.role = .traction ∨ s.role = .genset then restDuty s else s.items.outputA.safeDuty
  | .b => s.items.outputB.safeDuty

/-- What a command output's pin shows now (R115, R120). -/
def pinLevel (s : State) (n : OutName) : PinLevel :=
  let o := s.outputs.get n
  match o.pin with
  | .running => dutyLevel o o.active
  | .shutdown =>
    match (s.items.output n).shutdownPin with
    | .safeDuty => dutyLevel o (safeDutyOf s n)
    | .holdLow => .low
    | .release => .floating

/-! ## Cease windows and trips (R51, R52, R128) -/

/-- The window of a kind. -/
def windowOf (s : State) (k : CeaseKind) : Window :=
  match k with
  | .traction => s.share.traction
  | .link => s.share.link

/-- The window of a kind replaced. -/
def putWindow (k : CeaseKind) (w : Window) (s : State) : State :=
  match k with
  | .traction => { s with share := { s.share with traction := w } }
  | .link => { s with share := { s.share with link := w } }

/-- A change of the cease windows, of which the gate and the applied grant are told (R117, R168). -/
def changeWindows (f : State → State) (s : State) : State := gated (fun u => formGrantHere (f u)) s

/-- A window extended: it takes the larger of its remainder and the duration, and the setter only of a larger duration (R51). -/
def extendWindow (w : Window) (duration : Nat) (station : Station) (line : Fin 4) : Window :=
  if w.left < duration then { left := duration, setter := some (station, line) } else w

/-- A cease event taken by the Share Unit (R51). -/
def setWindow (k : CeaseKind) (duration : Nat) (station : Station) (line : Fin 4) (s : State) : State :=
  changeWindows (fun u => putWindow k (extendWindow (windowOf u k) duration station line) u) s

/-- A window lowered at a boundary; at 0 it closes and has no setter (R52). -/
def lowerWindow (w : Window) : Window := if w.left ≤ 1 then .closed else { w with left := w.left - 1 }

/-- A cease trip: the own window is set and a CEASE frame is placed with the full duration (R128). -/
def ceaseTrip (k : CeaseKind) (duration : Nat) (line : Fin 4) (s : State) : State :=
  let t := setWindow k duration s.self line s
  let u := place .cease (ceasePayload k duration line) t
  { u with link := { u.link with ceaseLeft := if t.link.state = .active then duration else u.link.ceaseLeft } }

/-- A shutdown line's source becoming active: offered to the outputs, and a cease trip if the line is a cease source (R118, R128). -/
def lineBecomesActive (l : Fin 4) (s : State) : State :=
  let t := offerSource l.val s
  match s.items.lines[l].cease with
  | none => t
  | some k => ceaseTrip k s.items.lines[l].duration l t

/-! ## Changes of the link state (R11, R19, R20) -/

/-- A change of the link state, of which the gate and the applied grant are told, and, where it leads to or from ISOLATED, the applied brake power (R117, R168, R172). -/
def changeLink (f : State → State) (s : State) : State :=
  gated
    (fun u =>
      let t := formGrantHere (f u)
      if decide (t.link.state = .isolated) = decide (u.link.state = .isolated) then t else formBrakeHere t)
    s

end Sys2Proof.Machine
end

