-- ==== Sys2Proof/Machine/Share.lean ====
section
/-! DEFINITION. The share computation and the pass in flight (R43 to R66). -/

namespace Sys2Proof.Machine

/-! ## Inputs (R54) -/

/-- The stations of a role that the snapshot finds usable, with a figure each; 0 for every other station. -/
def figuresOf (n : Snapshot) (r : Role) (f : SnapStation → Nat) : List Nat :=
  allStations.map fun i => let x := n.stations[i]; if x.usable && decide (x.role = r) then f x else 0

/-- A station of a role's usable set. -/
def inSet (n : Snapshot) (r : Role) (i : Station) : Bool := (n.stations[i]).usable && decide ((n.stations[i]).role = r)

/-- The weights w of the friction set: the brake distribution entries of its stations (R54). -/
def frictionWeights (p : Sharing) (n : Snapshot) : List Nat :=
  allStations.map fun i => if inSet n .friction i then p.distribution[i] else 0

/-- Ga: limit A of the GENSET station in use if usable, otherwise 0 (R54). -/
def gensetPower (n : Snapshot) : Nat :=
  match n.genset with
  | none => 0
  | some i => if (n.stations[i]).usable then (n.stations[i]).limitA else 0

/-- The usable PACK station in use (R54). -/
def packStation (n : Snapshot) : Option SnapStation :=
  match n.pack with
  | none => none
  | some i => if (n.stations[i]).usable then some n.stations[i] else none

/-- The SOC a pass takes from its snapshot (R54); 0 when the pack is blind, where no rule reads it. -/
def packSoc (n : Snapshot) : Int :=
  match packStation n with
  | none => 0
  | some x => x.aux

/-- Bd (R54). -/
def packDischarge (n : Snapshot) : Nat :=
  match packStation n with
  | none => 0
  | some x => x.limitA

/-- Bc (R54). -/
def packCharge (n : Snapshot) : Nat :=
  match packStation n with
  | none => 0
  | some x => x.limitB

/-- The flags every mode forms alike (R63). -/
def commonFlags (n : Snapshot) : PlanFlags :=
  { demandStale := n.stale, packBlind := (packStation n).isNone, tractionCease := n.tractionCease, linkCease := n.linkCease }

/-- One entry of a list over the stations. -/
def atStation (l : List Nat) (i : Station) : Nat := l.getD i.val 0

/-! ## The traction path (R57 to R59) -/

/-- D_cap before the supply is met (R57). -/
def driveTotal (n : Snapshot) : Int :=
  if n.tractionCease || n.linkCease then 0
  else if n.demand ≤ 0 then 0
  else min n.demand ((figuresOf n .traction (·.limitA)).sum : Int)

/-- The generator ceiling Ga' (R58). -/
def gensetCeiling (n : Snapshot) : Int := if n.linkCease then 0 else (gensetPower n : Int)

/-- The setpoint from charge (R58, step 1). -/
def chargeSetpoint (p : Sharing) (n : Snapshot) (supply : Int) : Int :=
  let g0 := if (packStation n).isNone then supply else supply + p.kSoc * ((p.socTarget : Int) - packSoc n)
  bring 0 (gensetCeiling n) g0

/-- What the traction path settles (R58): D_cap, S, G_set and the flags it sets. -/
structure Supply where
  dCap : Int
  supply : Int
  gSet : Int
  discharge : Bool
  short : Bool
  charge : Bool
  deriving DecidableEq, Repr

/-- The generator setpoint raised before drive is cut (R58, step 2, first). -/
def raisedSetpoint (n : Snapshot) (supply g : Int) : Int :=
  if supply - g > packDischarge n then min (gensetCeiling n) (max g (supply - packDischarge n)) else g

/-- Pack discharge, then pack charge (R58, steps 2 and 3). -/
def settleSupply (p : Sharing) (n : Snapshot) : Supply :=
  let d0 := driveTotal n
  let s0 := d0 + p.x
  let g1 := raisedSetpoint n s0 (chargeSetpoint p n s0)
  let cut := decide (s0 - g1 > packDischarge n)
  let d1 := if cut then max 0 ((packDischarge n : Int) + g1 - p.x) else d0
  let s1 := d1 + p.x
  let short := cut && decide (s1 - g1 > packDischarge n)
  let charge := decide (s1 - g1 < -(packCharge n : Int))
  { dCap := d1, supply := s1, gSet := if charge then s1 + packCharge n else g1, discharge := cut, short, charge }

/-- Drive grants: D_cap split over T by Pm; 0 for each station of F; none for any other station (R59). -/
def driveGrants (n : Snapshot) (dCap : Int) : Vector (Option Int) 16 :=
  let shares := split dCap.toNat (figuresOf n .traction (·.limitA))
  Vector.ofFn fun i =>
    if inSet n .traction i then some (atStation shares i : Int) else if inSet n .friction i then some 0 else none

/-- The plan of the traction path, in TRACTION and in COAST (R55, R57 to R59). -/
def tractionPlan (p : Sharing) (n : Snapshot) : PlanBody :=
  let u := settleSupply p n
  { mode := if 0 < n.demand then .traction else .coast, demand := n.demand, base := u.dCap, supply := u.supply, gSet := u.gSet,
    pb := u.supply - u.gSet, rTot := 0, fTot := 0, deficit := 0,
    flags :=
      { commonFlags n with
        motorLimit := decide (((figuresOf n .traction (·.limitA)).sum : Int) < n.demand), packDischarge := u.discharge,
        supplyShort := u.short, packCharge := u.charge }
    grants := driveGrants n u.dCap
    brakes := Vector.ofFn (inSet n .friction) }

/-! ## The braking path (R60 to R62) -/

/-- The recovery capacity Rcap (R60). -/
def recoveryCap (p : Sharing) (n : Snapshot) : Nat :=
  if n.linkCease then 0 else min (figuresOf n .traction (·.limitB)).sum (packCharge n + p.x)

/-- R_tot under the recovery ceiling (R60, step 2). -/
def ceilingTotal (p : Sharing) (n : Snapshot) (q : Nat) : Nat := min (q * p.rho / 1000) (recoveryCap p n)

/-- R_tot after the ceiling lift (R60, step 3). -/
def recoveryTotal (p : Sharing) (n : Snapshot) (q : Nat) : Nat :=
  let r := ceilingTotal p n q
  let w := (figuresOf n .friction (·.limitA)).sum
  if w < q - r then max r (min (recoveryCap p n) (q - w)) else r

/-- The shares cut to their stations' Fmax (R62). -/
def cutTo (shares caps : List Nat) : List Nat := List.zipWith min shares caps

/-- The weights of the stations the first cut left whole (R62, step 3). -/
def uncutWeights (shares caps weights : List Nat) : List Nat :=
  List.zipWith (fun w sc => if sc.2 < sc.1 then 0 else w) weights (shares.zip caps)

/-- The friction grants of a friction total (R62). -/
def frictionGrants (total : Nat) (caps weights : List Nat) : List Nat :=
  let first := split total weights
  let cut := cutTo first caps
  let excess := first.sum - cut.sum
  cutTo (List.zipWith (· + ·) cut (split excess (uncutWeights first caps weights))) caps

/-- The plan of the braking path (R60 to R62). -/
def brakingPlan (p : Sharing) (n : Snapshot) : PlanBody :=
  let q := (-n.demand).toNat
  let r := recoveryTotal p n q
  let f := q - r
  let brakes := frictionGrants f (figuresOf n .friction (·.limitA)) (frictionWeights p n)
  let regen := split r (figuresOf n .traction (·.limitB))
  let deficit := f - brakes.sum
  { mode := .braking, demand := n.demand, base := q, supply := p.x, gSet := 0, pb := (p.x : Int) - r, rTot := r, fTot := f, deficit,
    flags := { commonFlags n with ceilingLifted := decide (ceilingTotal p n q < r), deficit := decide (0 < deficit) }
    grants :=
      Vector.ofFn fun i =>
        if inSet n .traction i then some (-(atStation regen i : Int))
        else if inSet n .friction i then some (atStation brakes i : Int)
        else none
    brakes := Vector.ofFn (inSet n .friction) }

/-- The share computation (R55). -/
def computePlan (p : Sharing) (n : Snapshot) : PlanBody := if n.demand < 0 then brakingPlan p n else tractionPlan p n

/-! ## The own grant (R66) -/

/-- A station is the one in use and usable in the snapshot (R66). -/
def usedHere (n : Snapshot) (inUse : Option Station) (i : Station) : Bool := decide (inUse = some i) && (n.stations[i]).usable

/-- The node's own line of a plan, by its strapped role (R66). -/
def ownGrantOf (role : Role) (self : Station) (n : Snapshot) (b : PlanBody) : Int :=
  match role with
  | .none => 0
  | .demand => 0
  | .genset => if usedHere n n.genset self then b.gSet else 0
  | .pack => if usedHere n n.pack self then b.pb else 0
  | .traction => grantOf b self
  | .friction => grantOf b self

/-! ## Passes (R44 to R48) -/

/-- One station as a snapshot takes it (R45). -/
def snapStation (s : State) (i : Station) : SnapStation :=
  let r := peer s i
  match r.state with
  | none => { usable := false, role := .none, limitA := 0, limitB := 0, aux := 0 }
  | some g => { usable := isUsable s r, role := Role.ofCode g.role, limitA := g.limitA, limitB := g.limitB, aux := g.aux }

/-- The snapshot of a pass (R45). At a DEMAND node DEMAND is taken as fresh. -/
def takeSnapshot (s : State) : Snapshot :=
  { demand := s.share.held, stale := decide (s.role ≠ .demand) && !demandFresh s, tractionCease := decide (0 < s.share.traction.left),
    linkCease := decide (0 < s.share.link.left), stations := Vector.ofFn (snapStation s), genset := stationInUse s .genset,
    pack := stationInUse s .pack }

/-- A pass started: the pass state is RUNNING with the snapshot taken now (R45). -/
def startPass (s : State) : State := { s with share := { s.share with pass := some { snap := takeSnapshot s, age := 0 } } }

/-- The held demand set, with what follows it at an isolated FRICTION node (R49, R172). -/
def setHeld (d : Int) (s : State) : State :=
  let t := { s with share := { s.share with held := d } }
  if s.link.state = .isolated then formBrakeHere t else t

/-- A DEMAND trigger: dropped in UNCONFIGURED; a pass on its demand when IDLE, the pending slot when RUNNING (R43, R47, R49). -/
def demandTrigger (d : Int) (s : State) : State :=
  if !s.locked then s
  else
    match s.share.pass with
    | none => startPass (setHeld d s)
    | some _ => { s with share := { s.share with pendingDemand := some d } }

/-- A trigger from timer expiry while DEMAND is stale: dropped in UNCONFIGURED and while a pass is RUNNING (R43, R48). -/
def timerTrigger (s : State) : State :=
  if !s.locked then s
  else
    match s.share.pass with
    | none => startPass s
    | some _ => s

/-- After a completion the pass of the pending slot starts at once, if the slot holds a trigger (R47). -/
def startPending (s : State) : State :=
  match s.share.pendingDemand with
  | none => s
  | some d => startPass (setHeld d { s with share := { s.share with pendingDemand := none } })

/-! ## Held demand (R50) -/

/-- The held demand moved toward 0 at a stale boundary, with the stale count after raising (R50). -/
def decayed (p : Sharing) (staleCount : Nat) (d : Int) : Int :=
  if 0 < d then max 0 (d - p.decayStep)
  else if d < 0 then (if staleCount ≤ p.brakeHold then d else min 0 (d + p.decayStep))
  else 0

/-- The Share Unit's step of the held demand at a boundary: nothing at a DEMAND node (R49, R50). -/
def stepHeld (s : State) : State :=
  if s.role = .demand then s
  else if demandFresh s then { s with share := { s.share with staleCount := 0 } }
  else
    let c := countUp s.share.staleCount
    setHeld (decayed s.items.sharing c s.share.held) { s with share := { s.share with staleCount := c } }

/-- Both cease windows lowered at a boundary (R52). -/
def lowerWindows (s : State) : State :=
  changeWindows
    (fun u => { u with share := { u.share with traction := lowerWindow u.share.traction, link := lowerWindow u.share.link } }) s

end Sys2Proof.Machine
end

