-- ==== Sys2Proof/Machine/RoleOps.lean ====
section
/-! DEFINITION. Role Logic's own operations: the demand computation (R136 to R146), the generator request and setpoint (R149 to R152), the pack's charge (R156, R157), the shortfall correction, stop hold and the lining model (R173 to R178). -/

namespace Sys2Proof.Machine

/-! ## The Demand Role (R136 to R144) -/

/-- The flags and the demand a computation forms from its inputs. -/
structure DemandFigures where
  disagree : Bool
  brake : Bool
  both : Bool
  door : Bool
  stopHold : Bool
  /-- The raw demand (R138). -/
  raw : Int
  /-- The raw demand after the door clamp (R139). -/
  clamped : Int
  deriving DecidableEq, Repr

/-- A pedal reading brought into 0 to 1000 (R137, R138). -/
def pedal (x : Int) : Int := bring 0 1000 x

/-- The raw demand (R138). -/
def rawDemand (k : DemandItems) (accelerator brake : Int) : Int :=
  if (k.deadband : Int) < brake then -((brake - k.deadband) * k.brakeMax).tdiv (1000 - k.deadband)
  else (accelerator * k.driveMax).tdiv 1000

/-- Steps 1 to 3 of the computation (R137 to R139), from the readings of channels 0 to 2, the door level and the speed of C0. -/
def demandFigures (k : DemandItems) (c0 c1 c2 : Int) (doorLevel : Bool) (speed : Nat) : DemandFigures :=
  let t0 := pedal c0
  let t1 := pedal c1
  let accelerator := min t0 t1
  let brake := pedal c2
  let pressed := decide ((k.deadband : Int) < brake)
  let door := doorLevel == k.doorHigh
  let raw := rawDemand k accelerator brake
  { disagree := decide ((k.tolerance : Int) < max t0 t1 - min t0 t1), brake := pressed,
    both := pressed && decide ((k.threshold : Int) < accelerator), door, stopHold := door && decide (speed ≤ k.stopSpeed), raw,
    clamped := if door then min raw 0 else raw }

/-- The ramp (R140). -/
def ramped (k : DemandItems) (base clamped : Int) : Int := if base < clamped then min clamped (base + k.rampUp) else clamped

/-- The figures of a computation as the state's inputs stand (R136). -/
def figuresNow (s : State) : DemandFigures :=
  demandFigures s.items.demand (s.filtered 0) (s.filtered 1) (s.filtered 2) (s.pins.inputs.getLsbD 0) (s.speed .c0)

/-- The Demand Role after a computation (R136 to R140, R143): outside READY and DERATED the result and the ramp base are 0 and the sequence counter stands. A change of readiness has zeroed them there already (`restDemand`). -/
def demandState (s : State) : DemandRole :=
  let d := s.roles.demand
  let f := figuresNow s
  let result := if s.available then ramped s.items.demand d.rampBase f.clamped else 0
  { d with
    result, rampBase := result, disagree := f.disagree, both := f.both, brake := f.brake, door := f.door, stopHold := f.stopHold,
    sequence := if s.available then d.sequence + 1 else d.sequence, computed := true }

/-- The DEMAND group a computation writes (R142). -/
def demandGroup (s : State) (d : DemandRole) : DemandGroup :=
  { sequence := d.sequence, demand := d.result, speed := s.speed .c0,
    flags :=
      { doors := d.door, stopHold := d.stopHold, quiet := d.quiet, brake := d.brake, both := d.both, disagree := d.disagree },
    arrival := s.round.count }

/-- The self-entry's DEMAND group rewritten (R142). -/
def writeDemand (g : DemandGroup) (s : State) : State :=
  putPeer s.self { s.peers[s.self] with demand := some g, lastSequence := some g.sequence } s

/-- The onsets of a computation counted (R137, R138, R146). -/
def countOnsets (before after : DemandRole) (s : State) : State :=
  let t := if after.disagree && !before.disagree then countEvent .pedalDisagree s else s
  if after.both && !before.both then countEvent .bothPedals t else t

/-- One demand computation with what it hands on (R136, R142 to R144). -/
def computeDemand (s : State) : State :=
  let d := demandState s
  let g := demandGroup s d
  let t := countOnsets s.roles.demand d (writeDemand g { s with roles := { s.roles with demand := d } })
  let t := if s.available then place .demand (demandPayload g) t else t
  demandTrigger d.result t

/-! ## GENSET (R149 to R152) -/

/-- The quiet zone holds (R150). -/
def quietZone (s : State) : Bool :=
  match freshDemandGroup s with
  | none => false
  | some g => g.flags.quiet

/-- The generator request by the first case that applies (R149). -/
def requestCase (k : Sharing) (surplus blind quiet : Bool) (soc supply : Int) (request : Bool) : Bool :=
  if surplus then false
  else if blind then true
  else if quiet then decide (soc < k.socCrit)
  else if soc < k.socLow ∨ (k.pEv : Int) < supply then true
  else if (k.socHigh : Int) ≤ soc then false
  else request

/-- The generator request evaluated from a completed plan and the SOC its pass took (R149). -/
def evaluateRequest (b : PlanBody) (soc : Int) (s : State) : State :=
  { s with
    roles :=
      { s.roles with
        genset :=
          { s.roles.genset with
            request :=
              requestCase s.items.sharing (peer s s.self).surplus b.flags.packBlind (quietZone s) soc b.supply
                s.roles.genset.request } } }

/-- The setpoint duty for a grant (R152). -/
def setpointDuty (s : State) (grant : Int) : Int :=
  if 0 < s.items.ratedA then
    s.items.dutyLo + (bring 0 s.items.ratedA grant * ((s.items.dutyHi : Int) - s.items.dutyLo)).tdiv s.items.ratedA
  else s.items.dutyLo

/-! ## PACK (R156, R157, R160) -/

/-- The pack's capacity in mAs (R155). -/
def capacityMas (k : Items) : Nat := 3600000 * k.capacityAh

/-- The SOC of a charge (R157). -/
def socOf (charge capacity : Nat) : Nat := 1000 * charge / capacity

/-- The charge, its remainder and the SOC set, and a change of the SOC handed on (R157): the limits derived anew, the wear records judged. A loading that leaves the SOC as it stands hands nothing on (DEDUCED, notes/assumptions/45.md). -/
def setPack (charge : Nat) (remainder : Int) (s : State) : State :=
  let soc := socOf charge (capacityMas s.items)
  let t := { s with roles := { s.roles with pack := { s.roles.pack with charge, remainder, soc } } }
  if soc = s.roles.pack.soc then t else judgeSoc soc (deriveLimits t)

/-- A charge loaded: brought into 0 to the capacity, the remainder set to 0 (R155, R160). -/
def loadCharge (charge : Nat) (s : State) : State := setPack (min charge (capacityMas s.items)) 0 s

/-- The past millisecond's charge: quotient and remainder of the current with the carried remainder (R156, step 1). -/
def chargeStep (current remainder : Int) : Int × Int := ((current + remainder).tdiv 10, (current + remainder).tmod 10)

/-- The charge counted at a measurement event (R156), and its magnitude handed to the THROUGHPUT records (R184). The SOC is handed on before the quotient (DESIGN CHOICE, notes/assumptions/49.md). -/
def countCharge (s : State) : State :=
  let (q, r) := chargeStep s.wheel.channels[0].latest s.roles.pack.remainder
  let c : Int := s.roles.pack.charge - q
  let capacity := capacityMas s.items
  let inRange := decide (0 ≤ c) && decide (c ≤ capacity)
  addFigure .throughput q.natAbs (setPack (bring 0 capacity c).toNat (if inRange then r else 0) s)

/-! ## Measured power (R148, R159, R166) -/

/-- Voltage times current over 10,000, truncated toward zero and brought into −6000 to +6000. -/
def measuredPower (volts amps : Int) : Int := bring (-6000) 6000 ((volts * amps).tdiv 10000)

/-! ## FRICTION: the shortfall correction (R173, R174) -/

/-- The contribution of a station against the latest plan (R173). A station of the friction set holds no regeneration grant. -/
def contributionOf (plan : Option Plan) (i : Station) (actual : Int) : Nat :=
  match plan with
  | none => 0
  | some p =>
    match p.body.mode, p.body.grants[i] with
    | .braking, some g => if p.body.brakes[i] then 0 else (max 0 (-g + actual)).toNat
    | _, _ => 0

/-- The own shortfall part: the node's share of the total over the friction set of the latest plan (R174), brought into its range of 0 to 12,000 (R2, R171). R174 names no clamp: that this figure is brought into the range of its table like any other is DEDUCED (notes/assumptions/39.md). -/
def ownPartOf (p : Sharing) (plan : Option Plan) (self : Station) (contributions : Vector Nat 16) : Nat :=
  match plan with
  | none => 0
  | some q =>
    match q.body.mode with
    | .braking =>
      if q.body.brakes[self] then
        min Config.shortfallTop
          (atStation
            (split contributions.toList.sum (allStations.map fun i => if q.body.brakes[i] then p.distribution[i] else 0)) self)
      else 0
    | .traction => 0
    | .coast => 0

/-- Contributions replaced and the own part formed anew. -/
def withContributions (v : Vector Nat 16) (s : State) : State :=
  { s with
    roles :=
      { s.roles with
        friction :=
          { s.roles.friction with contributions := v, ownPart := ownPartOf s.items.sharing s.share.plan s.self v } } }

/-- A TRACTION station's STATE arrival at a FRICTION node (R173, R174): a change of the own part forms the applied brake power anew. -/
def takeContribution (i : Station) (actual : Int) (s : State) : State :=
  let t := withContributions (alter s.roles.friction.contributions i fun _ => contributionOf s.share.plan i actual) s
  if t.roles.friction.ownPart ≠ s.roles.friction.ownPart then formBrake t else t

/-- The contributions a completion leaves standing: none when the plan is not BRAKING, otherwise those of the stations it grants (R173). -/
def keptContributions (b : PlanBody) (v : Vector Nat 16) : Vector Nat 16 :=
  Vector.ofFn fun i => if b.mode = .braking ∧ (b.grants[i]).isSome then v[i] else 0

/-! ## FRICTION: stop hold (R175) -/

/-- Stop hold as the Peer Table now has it (R175). -/
def stopHoldNow (s : State) : Bool :=
  match freshDemandGroup s with
  | none => false
  | some g => g.flags.stopHold

/-- Stop hold judged anew at a FRICTION node: a change writes the duty, and a new hold is counted (R175). A hold that begins outside READY and DERATED writes the duty of R172, where R175 names no write (DESIGN CHOICE, notes/assumptions/61.md). -/
def judgeStopHold (s : State) : State :=
  if s.role = .friction ∧ stopHoldNow s ≠ s.roles.friction.stopHold then
    let t := { s with roles := { s.roles with friction := { s.roles.friction with stopHold := stopHoldNow s } } }
    let t := writeFriction t
    if stopHoldNow s && s.available then countEvent .holdApplies t else t
  else s

/-! ## FRICTION: the lining model (R177) -/

/-- What one step of the lining model leaves: the estimate, the three remainders and the energy in J. -/
structure LiningStep where
  temp : Int
  energyRem : Int
  heatRem : Int
  coolRem : Int
  energy : Nat
  deriving DecidableEq, Repr

/-- One step of the lining model over `dt` ms at an applied brake power (R177). -/
def liningStep (k : FrictionItems) (f : FrictionRole) (applied dt : Nat) : LiningStep :=
  let e : Int := applied * dt + f.energyRem
  let energy := e.tdiv 10
  let h : Int := energy * k.heating + f.heatRem
  let warm := f.temp + h.tdiv 100000
  let c : Int := (warm - k.ambient) * k.cooling + f.coolRem
  { temp := bring (-400) 12000 (warm - c.tdiv 1048576), energyRem := e.tmod 10, heatRem := h.tmod 100000, coolRem := c.tmod 1048576,
    energy := energy.toNat }

/-- The interval of a completion in ms (R177). -/
def liningInterval (now : Micros) (last : Option Micros) : Nat :=
  match last with
  | none => 0
  | some t => min 1000 ((now - t).toNat / 1000)

/-- The lining model stepped at a plan completion under the applied brake power in force before it, with its hand-ons (R177). -/
def stepLining (applied : Nat) (s : State) : State :=
  let f := s.roles.friction
  let n := liningStep s.items.friction f applied (liningInterval s.capture.micros f.lastCompletion)
  let t :=
    { s with
      roles :=
        { s.roles with
          friction :=
            { f with
              temp := n.temp, energyRem := n.energyRem, heatRem := n.heatRem, coolRem := n.coolRem,
              lastCompletion := some s.capture.micros, aux := n.temp } } }
  let t := if n.temp = f.temp then t else deriveLimits t
  takeReading [.liningTemp] n.temp (addFigure .liningEnergy n.energy t)

/-! ## FRICTION: the lining thickness (R178) -/

/-- The thickness a duty stands for (R178). -/
def thicknessOf (k : FrictionItems) (duty : Nat) : Int :=
  k.thickness0 + (((k.thickness1000 : Int) - k.thickness0) * duty).tdiv 1000

/-- The lining thickness formed from the duty and absent mark of C1 (R178). -/
def formThickness (s : State) : State :=
  { s with
    roles :=
      { s.roles with
        friction :=
          { s.roles.friction with
            thickness :=
              if s.capture.demod.absent then s.roles.friction.thickness else thicknessOf s.items.friction s.capture.demod.duty
            thicknessAbsent := s.capture.demod.absent } } }

end Sys2Proof.Machine
end

