-- ==== Sys2Proof/Machine/Boundary.lean ====
section
/-! DEFINITION. The round boundary and what each block does at it (R16, R17, R20, R24 to R29, R35, R50, R52, R136, R175, R194). -/

namespace Sys2Proof.Machine

/-! ## Link Controller at a boundary (R16, R17, R20) -/

/-- The CEASE remainder lowered by one; the slot is emptied when it reaches 0 (R17). -/
def stepRemainder (s : State) : State :=
  { s with
    link :=
      if s.link.ceaseLeft = 1 then s.link.clear .cease else { s.link with ceaseLeft := s.link.ceaseLeft - 1 } }

/-- A WARN that waited for a boundary is eligible again (R16). -/
def releaseWarn (s : State) : State :=
  { s with
    link :=
      { s.link with
        outbox := { s.link.outbox with warn := s.link.outbox.warn.map fun x => { x with waiting := false } } } }

/-- The probe placed and the probe count set back to 0 (R20). -/
def placeProbe (s : State) : State :=
  { s with link := { s.link.fill .state (statePayload (selfStateGroup s)) true with probeCount := 0 } }

/-- The probe count raised while ISOLATED; at 100 a probe is placed (R20). -/
def stepProbe (s : State) : State :=
  if s.link.state = .isolated then
    if Config.probeInterval ≤ s.link.probeCount + 1 then placeProbe s
    else { s with link := { s.link with probeCount := s.link.probeCount + 1 } }
  else s

/-! ## Peer Table at a boundary (R35, R36) -/

/-- Rounds since the newest arrival stamped in a record, if it holds any. -/
def recordAge (s : State) (r : PeerRecord) : Option Nat :=
  ((r.state.map fun g => ageOf s g.arrival).toList ++ (r.demand.map fun g => ageOf s g.arrival).toList ++
    (r.warn.map fun g => ageOf s g.arrival).toList).min?

/-- A station's record is to be forgotten: present, not the self-entry, and silent for more than 250 rounds (R35). -/
def isForgotten (s : State) (i : Station) : Bool :=
  decide (i ≠ s.self) && (s.peers[i]).present &&
    match recordAge s s.peers[i] with
    | none => false
    | some n => decide (Config.forgetRounds < n)

/-- Every record that is to be forgotten cleared (R35). -/
def forgetSilent (s : State) : State :=
  { s with peers := Vector.ofFn fun i => if isForgotten s i then {} else s.peers[i] }

/-- The single roles (R36). -/
def singleRoles : List Role := [.demand, .genset, .pack]

/-! ## Wear Unit at a boundary (R194) -/

/-- The refresh count raised in a locked state; at 100 a WARN frame is placed (R194). -/
def stepRefresh (s : State) : State :=
  if s.locked then
    if Config.refreshRounds ≤ s.wear.refresh + 1 then placeWarn s
    else { s with wear := { s.wear with refresh := s.wear.refresh + 1 } }
  else s

/-! ## Round Timer (R24 to R29) -/

/-- A period in µs. -/
def periodMicros (ms : Nat) : Nat := ms * 1000

/-- One and a quarter periods in µs (R26). -/
def longWait (ms : Nat) : Nat := ms * 1250

/-- The next expiry of the boundary timer after a boundary, judged with the round count raised (R25, R26). -/
def nextExpiry (cause : BoundaryCause) (s : State) : Nat :=
  if s.role = .demand then periodMicros s.items.period
  else
    match cause with
    | .demandArrival => longWait s.items.period
    | .expiry => if demandFresh s then longWait s.items.period else periodMicros s.items.period

/-- The wait of the STATE emission timer in µs: station × period / 20 (R29). -/
def emissionWait (s : State) : Nat := s.self.val * s.items.period * 50

/-- The STATE of the round just ended, if its emission timer still runs (R29). -/
def flushEmission (s : State) : State := if s.round.emission.isSome then placeState s else s

/-- The mark of the boundary timer that a boundary sets anew: at a DEMAND arrival an expiry that was due does not come (R27). -/
def strikesBoundary (cause : BoundaryCause) (r : RoundTimer) : Bool :=
  match cause with
  | .demandArrival => strikes (some r.boundary) r.boundaryStruck
  | .expiry => r.boundaryStruck

/-- The Round Timer's own part of a boundary (R28): count, phase, timers. The emission timer of station 0 expires at the boundary itself and is not left running. -/
def turnRound (cause : BoundaryCause) (s : State) : State :=
  let t := { s with round := { s.round with count := s.round.count + 1, phase := 0, period := s.items.period } }
  { t with
    round :=
      { t.round with
        boundary := nextExpiry cause t, emission := if s.self.val = 0 then none else some (emissionWait s)
        boundaryStruck := strikesBoundary cause s.round, emissionStruck := strikes s.round.emission s.round.emissionStruck } }

/-- Station 0's STATE, placed at the boundary itself (R29). -/
def emitAtBoundary (s : State) : State := if s.self.val = 0 then placeState s else s

/-- The Share Unit's part of a boundary: held demand, cease windows, then the timer trigger of a stale expiry (R44, R50, R52). -/
def shareBoundary (cause : BoundaryCause) (s : State) : State :=
  let t := lowerWindows (stepHeld s)
  match cause with
  | .demandArrival => t
  | .expiry => if s.role ≠ .demand ∧ demandFresh s = false then timerTrigger t else t

/-- Readiness, Step Engine and, at a DEMAND node, the demand computation, in the order the manual leaves open (R136). Where no list runs and no passage is due the order makes no difference, and the computation comes last. -/
def roleBoundary (s : State) : State :=
  if s.role = .demand then
    if s.engine.list.isSome || inPassage s then
      let (first, t) := takeOrder s
      if first then readinessBoundary (computeDemand t) else computeDemand (readinessBoundary t)
    else computeDemand (readinessBoundary s)
  else readinessBoundary s

/-- The Link Controller's part of a boundary. -/
def linkBoundary (s : State) : State := stepProbe (releaseWarn (stepRemainder s))

/-- The Peer Table's part of a boundary (R35, R36), and with it a FRICTION node's stop hold (R175). R28 lists stop hold after the Step Engine and gives no order; that it is judged here, before readiness has moved, is the model's (DESIGN CHOICE, notes/assumptions/50.md). -/
def peerBoundary (s : State) : State := judgeStopHold (judgeSurplus singleRoles (forgetSilent s))

/-- A round boundary, the blocks taken in the order of the table of R28, but for stop hold, which `peerBoundary` judges (notes/assumptions/5.md and 50.md). -/
def roundBoundary (cause : BoundaryCause) (s : State) : State :=
  emitAtBoundary
    (stepRefresh
      (roleBoundary (shareBoundary cause (peerBoundary (linkBoundary (turnRound cause (flushEmission s)))))))

end Sys2Proof.Machine
end

