-- ==== Sys2Proof/Machine/Measure.lean ====
section
/-! DEFINITION. Measurement: conversions, window monitors, captures, speeds, demodulation and the measurement event (R97 to R112, R142, R148, R156, R159, R166, R178, R185). -/

namespace Sys2Proof.Machine

/-! ## Conversions (R98, R99) -/

/-- The raw count of an input at a level in µV above ground (R98): ground gives 0, the supply and any level above it 1023, a level below ground 0, and between them each of the 1024 equal steps is one count (DEDUCED, notes/assumptions/10.md). -/
def rawCount (level : Int) : BitVec 10 := BitVec.ofNat 10 (bring 0 1023 (level * Config.countSteps / Config.supplyLevel)).toNat

/-- A raw count scaled by a channel's offset and gain (R98). -/
def scaled (k : ChannelItems) (raw : BitVec 10) : Int := bring (-32768) 32767 (((raw.toNat : Int) * k.gain).tdiv 1024 + k.offset)

/-- A channel after a conversion that gave `v` (R98, R99). -/
def takeConversion (k : ChannelItems) (v : Int) (c : Channel) : Channel :=
  { latest := v, filtered := if c.seed then v else c.filtered + (v - c.filtered).tdiv (2 ^ k.shift), seed := false }

/-- A conversion of a channel whose input stands at a level (R98, R99). -/
def convert (c : Fin 4) (level : Int) (s : State) : State :=
  { s with
    pins := { s.pins with analog := alter s.pins.analog c fun _ => level }
    wheel :=
      { s.wheel with
        channels := alter s.wheel.channels c (takeConversion s.items.channels[c] (scaled s.items.channels[c] (rawCount level))) } }

/-! ## Captures (R104 to R108) -/

/-- Edges per capture (R104). -/
def edgesPerCapture : CaptureMode → Nat
  | .everyEdge => 1 | .every4th => 4 | .every16th => 16 | .demodulate => 1

/-- The zero-speed timer's wait in µs (R108). -/
def zeroSpeedWait (k : CaptureItems) : Nat := k.timeoutMs * 1000

/-- A capture: its timestamp offered to the FIFO, the zero-speed timer restarted; an expiry that was due does not come (R104, R105, R108). -/
def takeCapture (k : CaptureItems) (now : Micros) (c : Capture) : Capture :=
  let full := decide (Config.fifoDepth ≤ c.fifo.length)
  { c with
    edges := 0, fifo := if full then c.fifo else c.fifo ++ [now], overflow := full || c.overflow, timer := some (zeroSpeedWait k)
    struck := strikes c.timer c.struck }

/-- A rising edge on a channel that is not in DEMODULATE (R104). A discarded capture raises CAPTURE attention (R105). -/
def takeEdge (n : CapName) (s : State) : State :=
  let k := s.items.capture n
  let c := s.capture.get n
  if c.edges + 1 < edgesPerCapture k.mode then { s with capture := s.capture.put n { c with edges := c.edges + 1 } }
  else
    raiseIf (decide (Config.fifoDepth ≤ c.fifo.length)) .capture
      { s with capture := s.capture.put n (takeCapture k s.capture.micros c) }

/-- The speed over a number of edges and an interval (R107). -/
def speedOver (k : CaptureItems) (edges interval : Nat) : Nat :=
  let t := max 1 interval
  match k.form with
  | .rpm => min 65535 (60000000 * edges / (t * k.pulsesPerRev))
  | .vehicle => min 65535 (edges * k.mmPerPulse * 36000 / t)

/-- The speed figure an evaluation leaves (R106), from the timestamps oldest first. -/
def evaluatedSpeed (k : CaptureItems) (c : Capture) : Nat :=
  if c.overflow then c.speed
  else
    match c.fifo, c.reference with
    | [], _ => c.speed
    | oldest :: rest, some r =>
      speedOver k ((oldest :: rest).length * edgesPerCapture k.mode) ((oldest :: rest).getLast (by simp) - r).toNat
    | [_], none => c.speed
    | oldest :: next :: rest, none =>
      speedOver k ((next :: rest).length * edgesPerCapture k.mode) ((next :: rest).getLast (by simp) - oldest).toNat

/-- A channel after an evaluation: the newest timestamp is the reference and the FIFO is empty (R106). -/
def evaluated (k : CaptureItems) (c : Capture) : Capture :=
  { c with
    speed := evaluatedSpeed k c, fifo := [], overflow := false,
    reference :=
      match c.fifo.getLast? with
      | none => c.reference
      | some t => some t }

/-- One channel's evaluation; a channel in DEMODULATE is not evaluated (R106). -/
def evaluateChannel (n : CapName) (s : State) : State :=
  { s with
    capture :=
      if (s.items.capture n).mode = .demodulate then s.capture
      else s.capture.put n (evaluated (s.items.capture n) (s.capture.get n)) }

/-- A channel's zero-speed expiry (R108). -/
def zeroSpeed (c : Capture) : Capture := { c with speed := 0, reference := none, timer := none }

/-! ## Demodulation (R110, R111) -/

/-- The absence timer's wait in µs (R111). -/
def absenceWait (s : State) : Nat := 3 * s.items.nominal

/-- The demodulation state after a falling edge at a count; the absence timer restarts, and an expiry that was due does not come (R110, R111). -/
def fallingEdge (now : Micros) (wait : Nat) (d : Demod) : Demod :=
  { d with
    high :=
      match d.rising with
      | none => d.high
      | some r => some (now - r)
    timer := some wait, struck := strikes d.timer d.struck }

/-- The demodulation state after a rising edge at a count: a complete period of more than 0 µs gives a duty and clears the absent mark; the absence timer restarts, and an expiry that was due does not come (R110, R111). -/
def risingDemod (now : Micros) (wait : Nat) (d : Demod) : Demod :=
  let formed : Option Nat :=
    match d.rising, d.high with
    | some r, some h => if now = r then none else some (min 1000 (h.toNat * 1000 / (now - r).toNat))
    | _, _ => none
  { rising := some now, high := none, duty := formed.getD d.duty, absent := if formed.isSome then false else d.absent,
    timer := some wait, struck := strikes d.timer d.struck }

/-- The absence timer's expiry (R111). -/
def signalAbsent (d : Demod) : Demod := { d with rising := none, high := none, absent := true, timer := none }

/-! ## Window monitors (R101, R102) -/

/-- A monitor judged by a value; the value is inside or outside its window (R101). -/
def judgeMonitor (k : MonitorItems) (v : Int) (m : Monitor) : Monitor :=
  let inside := decide (k.low ≤ v) && decide (v ≤ k.high)
  if inside = m.tripped then (if k.count ≤ m.run + 1 then { tripped := !m.tripped, run := 0 } else { m with run := m.run + 1 })
  else { m with run := 0 }

/-- One monitor's part of a measurement event; a trip is offered to the outputs as a source becoming active (R101, R102). -/
def stepMonitor (m : Fin 2) (s : State) : State :=
  match s.items.monitors[m].channel with
  | none => s
  | some c =>
    let after := judgeMonitor s.items.monitors[m] (s.filtered c) s.wheel.monitors[m]
    let t := { s with wheel := { s.wheel with monitors := alter s.wheel.monitors m fun _ => after } }
    if after.tripped && !s.wheel.monitors[m].tripped then offerSource (4 + m.val) t else t

/-! ## Role Logic at a measurement event -/

/-- The DEMAND role's aux figure (R142). -/
def measureDemand (s : State) : State := { s with roles := { s.roles with demand := { s.roles.demand with aux := s.speed .c0 } } }

/-- The GENSET role's STATE figures (R148). -/
def measureGenset (s : State) : State :=
  { s with
    roles :=
      { s.roles with
        genset := { s.roles.genset with actual := measuredPower (s.filtered 3) (s.filtered 0), aux := s.speed .c0 } } }

/-- The PACK role's actual figure, then in a locked state the charge count (R156, R159). -/
def measurePack (s : State) : State :=
  let t :=
    { s with roles := { s.roles with pack := { s.roles.pack with actual := measuredPower (s.filtered 2) (s.filtered 0) } } }
  if s.locked then countCharge t else t

/-- The TRACTION role's STATE figures; a speed figure that differs from the one of the event before derives the limits and forms the torque command anew (R166, R167, R169; what it is compared with is DEDUCED, notes/assumptions/52.md). -/
def measureTraction (s : State) : State :=
  let t :=
    { s with
      roles :=
        { s.roles with
          traction := { s.roles.traction with actual := measuredPower (s.filtered 3) (s.filtered 0), aux := s.speed .c0 } } }
  if s.speed .c0 = s.roles.traction.aux then t else formTorque (deriveLimits t)

/-- Role Logic's part of a measurement event. -/
def measureRole (s : State) : State :=
  match s.role with
  | .none => s
  | .demand => measureDemand s
  | .genset => measureGenset s
  | .pack => measurePack s
  | .traction => measureTraction s
  | .friction => formThickness s

/-! ## Wear Unit and Readiness Controller at a measurement event -/

/-- The level readings a measurement event hands to the Wear Unit (R185). -/
def measureWear (s : State) : State :=
  let t := takeReading [.coolantTemp, .packTemp, .motorTemp] (s.filtered 1) (refreshGates true s)
  if s.role = .friction ∧ s.roles.friction.thicknessAbsent = false then
    takeReading [.liningThickness] s.roles.friction.thickness t
  else t

/-- The curve input figure handed on: a value that differs from the one of the event before derives the limits anew (R81, R100). -/
def measureCurve (s : State) : State :=
  match curveInput s with
  | none => s
  | some x => if x = s.ready.curveInput then s else deriveLimits { s with ready := { s.ready with curveInput := x } }

/-- The measurement event, with a new turn begun under the map as it is now loaded (R97, R100, R113). Where both monitors trip at one event, monitor 0 is taken before monitor 1: the manual gives no order (DESIGN CHOICE, notes/assumptions/44.md). -/
def measure (s : State) : State :=
  let t := evaluateChannel .c1 (evaluateChannel .c0 s)
  let t := stepMonitor 1 (stepMonitor 0 t)
  let t := measureCurve (measureWear (measureRole t))
  { t with wheel := { t.wheel with position := 0, map := t.items.map } }

end Sys2Proof.Machine
end

