-- ==== Sys2Proof/Machine/LinkOps.lean ====
section
/-! DEFINITION. Frames taken from the line, station clashes, contention and the outcome of transmissions (R4, R9 to R21, R31 to R33, R51). -/

namespace Sys2Proof.Machine

/-! ## Reception (R4, R9, R10) -/

/-- The receiver takes a frame: it does not wait for idle, and the node is not sending (R4, R10). -/
def receives (s : State) : Bool := decide (s.link.line ≠ .waiting) && s.link.tx.isNone

/-- The line after a frame has been taken or discarded: the receiver waits for idle (R4). -/
def awaitIdle (s : State) : State := { s with link := { s.link with line := .waiting } }

/-- What a received frame hands on, if it is accepted from a peer (R9, R10). -/
def received (f : Frame) (s : State) : Option Content :=
  if receives s ∧ senderOf f.precedence ≠ s.self then judgeFrame f else none

/-- The node drives the acknowledge slot of a received frame dominant: the frame is accepted from another station, and the Link Controller is not MUTED (R9, R11). -/
def acknowledges (f : Frame) (s : State) : Bool := (received f s).isSome && decide (s.link.state ≠ .muted)

/-! ## STATE, WARN and DEMAND stored (R31 to R33) -/

/-- The STATE group an arrival stores (R31). -/
def storedState (c : StateContent) (now : Round) : StateGroup :=
  { role := c.role, readiness := c.readiness, limitA := c.limitA, limitB := c.limitB, actual := c.actual, aux := c.aux,
    signature := c.signature, worst := c.worst, arrival := now }

/-- A record's DISCORD mark judged (R38). -/
def discordOf (s : State) (r : PeerRecord) : Bool :=
  match r.state with
  | none => false
  | some g => r.present && s.locked && decide (g.signature ≠ signatureOf s.items.sharing)

/-- A record after a STATE has been stored, its change of role handled (R31, steps 1 to 3). -/
def storeState (c : StateContent) (now : Round) (r : PeerRecord) : PeerRecord :=
  let changed :=
    match r.state with
    | none => false
    | some g => decide (g.role ≠ c.role)
  { r with
    present := true, state := some (storedState c now), demand := if changed then none else r.demand,
    lastSequence := if changed then none else r.lastSequence }

/-- An accepted STATE frame at the Peer Table (R31). -/
def takeState (i : Station) (c : StateContent) (s : State) : State :=
  let before := s.peers[i]
  let stored := storeState c s.round.count before
  let marked := { stored with discord := discordOf s stored }
  let t := raiseIf (marked.discord && !before.discord) .link (putPeer i marked s)
  let t := judgeStopHold (judgeSurplus [heldRole before, heldRole marked] t)
  if s.role = .friction ∧ heldRole marked = .traction then takeContribution i c.actual t else t

/-- An accepted WARN frame at the Peer Table (R32). -/
def takeWarn (i : Station) (c : WarnContent) (s : State) : State :=
  putPeer i
    { s.peers[i] with
      present := true, warn := some { slots := c.slots, deficit := c.deficit, isolation := c.isolation, arrival := s.round.count } }
    s

/-- A record after a DEMAND has been stored with a stamp (R33). -/
def storeDemand (c : DemandContent) (stamp : Round) (r : PeerRecord) : PeerRecord :=
  { r with
    present := true, demand := some { sequence := c.sequence, demand := c.demand, speed := c.speed, flags := c.flags, arrival := stamp }
    lastSequence := some c.sequence }

/-- A DEMAND is new: its sequence differs from the record's last, or that is absent (R33). -/
def isNewDemand (c : DemandContent) (r : PeerRecord) : Bool := decide (r.lastSequence ≠ some c.sequence)

/-- The round phase is at least half a period (R27). -/
def lateEnough (s : State) : Bool := decide (s.round.period * 1000 ≤ 2 * s.round.phase)

/-- A fresh DEMAND at an acceptance zeroes the stale count (R49). -/
def settleStale (s : State) : State :=
  { s with share := { s.share with staleCount := if demandFresh s then 0 else s.share.staleCount } }

/-- An arrival that is acted on but causes no boundary: at round phase 0 it falls together with the boundary just taken, at which it makes DEMAND fresh, and the next expiry is 1.25 periods as in the other order (R27). That phase 0 tells the two apart from an arrival between boundaries is the model's (DEDUCED, notes/assumptions/46.md). -/
def joinBoundary (s : State) : State :=
  { s with round := { s.round with boundary := if s.round.phase = 0 then longWait s.round.period else s.round.boundary } }

/-- An accepted DEMAND frame: stored, and the stale count settled; if it is new and from the station in use, at a node not strapped DEMAND, a round boundary if the phase allows it and a share trigger (R27, R33, R44, R49). R44 orders only the Share Unit's own work: that the snapshot of a pass is taken after every block's part of the boundary that the arrival causes, and at a stale expiry inside the Share Unit's own part, is the model's (DESIGN CHOICE, notes/assumptions/40.md). That the acceptance settles the stale count before the boundary it causes is DEDUCED (notes/assumptions/31.md). -/
def takeDemand (i : Station) (c : DemandContent) (s : State) : State :=
  let settled := settleStale (putPeer i (storeDemand c s.round.count s.peers[i]) s)
  if isNewDemand c s.peers[i] ∧ s.role ≠ .demand ∧ stationInUse settled .demand = some i then
    if lateEnough s then
      demandTrigger c.demand
        (roundBoundary .demandArrival (putPeer i (storeDemand c (s.round.count + 1) s.peers[i]) settled))
    else demandTrigger c.demand (judgeStopHold (joinBoundary settled))
  else judgeStopHold settled

/-- An accepted CEASE frame at the Share Unit (R51). -/
def takeCease (i : Station) (c : CeaseContent) (s : State) : State := setWindow c.kind c.duration i c.line s

/-! ## Station clash (R11) -/

/-- A frame is a station clash: accepted, with the node's own number, while the node is not sending (R10). -/
def isClash (f : Frame) (s : State) : Bool :=
  receives s && decide (senderOf f.precedence = s.self) && (judgeFrame f).isSome

/-- The link's part of a clash (R11). -/
def muteLink (l : Link) : Link := { l.clearAll with state := .muted, holdOff := none }

/-- The clash reported to the Readiness Controller: FAULTED with cause CLASH in a locked state, held in UNCONFIGURED (R11). -/
def reportClash (s : State) : State :=
  if s.locked then enterFaulted (fun c => { c with clash := true }) s
  else { s with link := { s.link with clashHeld := true } }

/-- A station clash; one received while MUTED changes nothing (R11). -/
def clash (s : State) : State :=
  if s.link.state = .muted then s
  else reportClash (raise .link (changeLink (fun u => { u with link := muteLink u.link }) s))

/-! ## Contention (R12, R15, R17) -/

/-- The frame kinds, lowest kind code first (R15). -/
def allKinds : List FrameKind := [.cease, .demand, .state, .warn]

/-- A slot is eligible for contention (R15). -/
def isEligible (l : Link) (k : FrameKind) : Bool :=
  match l.outbox.get k with
  | none => false
  | some x =>
    match k with
    | .cease => true
    | .demand => true
    | .state => l.holdOff.isNone
    | .warn => l.holdOff.isNone && !x.waiting

/-- The slot the transmitter sends: the eligible one of lowest kind code (R15). -/
def nextKind (l : Link) : Option FrameKind := allKinds.find? (isEligible l)

/-- The Link Controller contends: the line idle, the node not sending, ACTIVE or ISOLATED (R12, R21). -/
def mayContend (l : Link) : Bool :=
  decide (l.line = .idle) && l.tx.isNone && (decide (l.state = .active) || decide (l.state = .isolated))

/-- The copy the transmitter takes of a slot: the CEASE copy carries the remainder at this moment (R17). -/
def copyOf (s : State) (k : FrameKind) (x : Slot) : Copy :=
  let payload :=
    match k with
    | .cease => withDuration x.payload s.link.ceaseLeft
    | .demand => x.payload
    | .state => x.payload
    | .warn => x.payload
  { kind := k, frame := composeFrame k s.self payload, probe := x.probe, own := true, detached := false }

/-- Contention is lost to another station's precedence field: at the first bit in which they differ, that one is dominant (R12). -/
def losesTo (own : BitVec 6) (rival : Option (BitVec 6)) : Bool :=
  match rival with
  | none => false
  | some r => decide (r.toNat < own.toNat)

/-- A contention: the copy goes out, or the node becomes a receiver of the winner's frame (R12). -/
def contend (rival : Option (BitVec 6)) (s : State) : State :=
  match nextKind s.link with
  | none => s
  | some k =>
    match s.link.outbox.get k with
    | none => s
    | some x =>
      let c := copyOf s k x
      { s with
        link := { s.link with line := .busy, tx := if losesTo c.frame.precedence rival then none else some c } }

/-! ## Outcomes (R13, R16 to R20) -/

/-- The hold-off starts after a success of a STATE or WARN frame; a hold-off of 0 starts no timer (R18). -/
def startHoldOff (k : FrameKind) (s : State) : State :=
  let starts : Bool :=
    match k with
    | .cease => false
    | .demand => false
    | .state => decide (0 < s.items.holdOff)
    | .warn => decide (0 < s.items.holdOff)
  { s with link := { s.link with holdOff := if starts then some (s.items.holdOff * 64) else s.link.holdOff } }

/-- The link returned to ACTIVE. A TRACTION node's applied grant stays 0 until the next plan completion (R20, R170). -/
def returnLink (s : State) : State :=
  { s with
    link := { s.link with state := .active }
    roles := { s.roles with traction := { s.roles.traction with awaiting := decide (s.role = .traction) } } }

/-- A probe's success ends the isolation (R20, R170). -/
def endIsolation (s : State) : State := reportIsolation false (changeLink returnLink s)

/-- The copy leaves the line, and the receiver waits for idle. -/
def endCopy (s : State) : State := { s with link := { s.link with tx := none, line := .waiting } }

/-- A transmission succeeds (R13, R16 to R18, R20). -/
def succeed (c : Copy) (s : State) : State :=
  let t := endCopy s
  let t := if c.own && !c.detached then { t with link := t.link.clear c.kind } else t
  let t := if c.detached then t else { t with link := { t.link with streak := 0 } }
  let t := startHoldOff c.kind t
  if c.probe && !c.detached && decide (s.link.state = .isolated) then endIsolation t else t

/-- What exhaustion does to a slot, by its kind (R16). -/
def exhaustSlot (k : FrameKind) (l : Link) : Link :=
  match k with
  | .cease => { l with outbox := { l.outbox with cease := l.outbox.cease.map fun x => { x with retries := 0 } } }
  | .demand => l.clear .demand
  | .state => l.clear .state
  | .warn => { l with outbox := { l.outbox with warn := l.outbox.warn.map fun x => { x with retries := 0, waiting := true } } }

/-- The entry to ISOLATED (R19). -/
def isolate (s : State) : State :=
  raise .link
    (reportIsolation true
      (changeLink (fun u => { u with link := { u.link.clearAll with state := .isolated, probeCount := 0 } }) s))

/-- A slot exhausted: the streak rises by one, up to 255; reaching 8 while ACTIVE isolates the node (R16, R19). -/
def exhaust (k : FrameKind) (s : State) : State :=
  let streak := min 255 (s.link.streak + 1)
  let t := { s with link := { exhaustSlot k s.link with streak } }
  if s.link.state = .active ∧ streak = Config.isolationStreak then isolate t else t

/-- A failure of a slot's own frame (R16). -/
def failSlot (k : FrameKind) (x : Slot) (s : State) : State :=
  if s.items.retryLimit ≤ x.retries + 1 then exhaust k s
  else { s with link := { s.link with outbox := s.link.outbox.put k (some { x with retries := x.retries + 1 }) } }

/-- A transmission fails (R13, R16, R17): a copy whose slot has moved on touches nothing. -/
def fail (c : Copy) (s : State) : State :=
  let t := endCopy s
  if c.own && !c.detached then
    match t.link.outbox.get c.kind with
    | none => t
    | some x => failSlot c.kind x t
  else t

end Sys2Proof.Machine
end

