-- ==== Sys2Proof/Machine/Completion.lean ====
section
/-! DEFINITION. Share completion and what each block does at it (R47, R64, R65, R124, R149 to R152, R168, R172 to R177, R183). -/

namespace Sys2Proof.Machine

/-- The plan record a pass publishes (R64, R66). -/
def planOf (s : State) (n : Snapshot) : Plan :=
  let body := computePlan s.items.sharing n
  { number := s.share.planCounter + 1, round := s.round.count, body, ownGrant := ownGrantOf s.role s.self n body }

/-- The plan published; the pass state returns to IDLE (R45, R64). -/
def publish (p : Plan) (s : State) : State :=
  { s with share := { s.share with pass := none, planCounter := p.number, plan := some p } }

/-- One of the three flags is set in a plan and was not in the one it replaces (R65). -/
def newlySet (before : Option Plan) (f : PlanFlags → Bool) (p : Plan) : Bool :=
  f p.body.flags &&
    match before with
    | none => true
    | some q => !f q.body.flags

/-- The plan raises SHARE attention (R65). -/
def raisesShare (before : Option Plan) (p : Plan) : Bool :=
  newlySet before (·.deficit) p || newlySet before (·.packBlind) p || newlySet before (·.supplyShort) p

/-- The reset hold of both outputs cleared (R124). -/
def clearHolds (s : State) : State :=
  { s with
    outputs := { s.outputs with a := { s.outputs.a with resetHold := false }, b := { s.outputs.b with resetHold := false } } }

/-- GENSET: the request evaluated, the setpoint duty written, the request tested (R149, R151, R152). -/
def completeGenset (p : Plan) (soc : Int) (s : State) : State :=
  let t := evaluateRequest p.body soc s
  testRequest (writeA (setpointDuty t p.ownGrant) t)

/-- FRICTION: the lining model stepped under the brake in force before the completion, contributions kept or zeroed, own part and applied brake power formed anew (R172 to R174, R177). -/
def completeFriction (p : Plan) (applied : Nat) (s : State) : State :=
  let t := stepLining applied s
  formBrake (withContributions (keptContributions p.body t.roles.friction.contributions) t)

/-- TRACTION: the applied grant follows the completed plan, with its torque command and duty, and a return of the link is past (R168 to R170). -/
def completeTraction (s : State) : State :=
  formGrant { s with roles := { s.roles with traction := { s.roles.traction with awaiting := false } } }

/-- Role Logic's part of a completion, with the SOC the pass took and the applied brake power in force before the completion (R65). -/
def completeRole (p : Plan) (soc : Int) (applied : Nat) (s : State) : State :=
  match s.role with
  | .none => s
  | .demand => s
  | .pack => s
  | .genset => completeGenset p soc s
  | .traction => completeTraction s
  | .friction => completeFriction p applied s

/-- Share completion of a pass on its snapshot (R47, R64, R65). The pass of the pending slot takes its snapshot after all the other work of the completion (DESIGN CHOICE, notes/assumptions/47.md). The blocks that R65 lists without an order are taken so: segment records, Role Logic, DEFICIT, attention, reset holds (DESIGN CHOICE, notes/assumptions/62.md). -/
def complete (n : Snapshot) (s : State) : State :=
  let p := planOf s n
  let t := publish p s
  let t := foldCarries (closeSegment t)
  let t := completeRole p (packSoc n) s.roles.friction.applied t
  let t := reportDeficit (decide (0 < p.body.deficit)) t
  startPending (clearHolds (raiseIf (raisesShare s.share.plan p) .share t))

end Sys2Proof.Machine
end

