-- ==== Sys2Proof/Machine/Operands.lean ====
section
/-! DEFINITION. The arguments of the configuration commands: item codes, indices, values and clamping, and the packing of steps (R85, R180, R190, R199). Each loader gives its reply and the state with the item loaded. -/

namespace Sys2Proof.Machine

/-! ## Values and clamping (R197, R199) -/

/-- A reply is a refusal (R197). -/
def isRefusal : Reply → Bool
  | .ok => false | .clamped => false | .empty => false
  | .wrongState => true | .locked => true | .wrongRole => true | .wrongKind => true | .curveOrder => true | .role => true
  | .length => true | .range => true

/-- The reply to a value taken: CLAMPED if it was brought into range (R197). -/
def replyFor (clamped : Bool) : Reply := if clamped then .clamped else .ok

/-- An unsigned value brought into range and stored (R197, R199). -/
def storeNat (lo hi : Nat) (v : BitVec 32) (store : Nat → State → State) (s : State) : Reply × State :=
  let n := bringNat lo hi v.toNat
  (replyFor (decide (n ≠ v.toNat)), store n s)

/-- A signed value brought into range and stored (R197, R199). -/
def storeInt (lo hi : Int) (v : BitVec 32) (store : Int → State → State) (s : State) : Reply × State :=
  let n := bring lo hi v.toInt
  (replyFor (decide (n ≠ v.toInt)), store n s)

/-- An index brought to a place of a vector, if it lies inside its range; indices are never clamped (R197). -/
def indexIn (n : Nat) (index : Byte) : Option (Fin n) := if h : index.toNat < n then some ⟨index.toNat, h⟩ else none

/-- A loader under an index; an index outside its range is refused with RANGE (R199). -/
def withIndex (n : Nat) (index : Byte) (s : State) (f : Fin n → Reply × State) : Reply × State :=
  match indexIn n index with
  | none => (.range, s)
  | some i => f i

/-- A code of a number or none: the code one above the largest is none, and so is any above it (R199). -/
def numberOrNone (n : Nat) (code : Nat) : Option (Fin n) := if h : code < n then some ⟨code, h⟩ else none

/-- The items changed. -/
def onItems (f : Items → Items) (s : State) : State := { s with items := f s.items }

/-! ## Groups 0 and 1: link, round, sharing parameters -/

/-- The retry limit a code names (R16, R199). -/
def retryLimitOf (code : Nat) : Nat :=
  match code with
  | 0 => 2 | 1 => 4 | 2 => 16 | _ => 64

/-- Group 0 (R22, R24). -/
def loadLink (place : Nat) (v : BitVec 32) (s : State) : Reply × State :=
  match place with
  | 0 => storeNat 0 3 v (fun n => onItems fun k => { k with retryLimit := retryLimitOf n }) s
  | 1 => storeNat 0 15 v (fun n => onItems fun k => { k with holdOff := n }) s
  | 2 => storeNat 5 40 v (fun n => onItems fun k => { k with period := n }) s
  | _ => (.range, s)

/-- The sharing parameters changed. -/
def onSharing (f : Sharing → Sharing) (s : State) : State := onItems (fun k => { k with sharing := f k.sharing }) s

/-- Group 1 (R53). -/
def loadSharing (place : Nat) (index : Byte) (v : BitVec 32) (s : State) : Reply × State :=
  match place with
  | 0 => storeNat 0 1000 v (fun n => onSharing fun p => { p with x := n }) s
  | 1 => storeNat 0 1000 v (fun n => onSharing fun p => { p with rho := n }) s
  | 2 => storeNat 0 1000 v (fun n => onSharing fun p => { p with socLow := n }) s
  | 3 => storeNat 0 1000 v (fun n => onSharing fun p => { p with socTarget := n }) s
  | 4 => storeNat 0 1000 v (fun n => onSharing fun p => { p with socHigh := n }) s
  | 5 => storeNat 0 1000 v (fun n => onSharing fun p => { p with socCrit := n }) s
  | 6 => storeNat 0 50 v (fun n => onSharing fun p => { p with kSoc := n }) s
  | 7 => storeNat 0 6000 v (fun n => onSharing fun p => { p with pEv := n }) s
  | 8 => storeNat 1 8 v (fun n => onSharing fun p => { p with staleLimit := n }) s
  | 9 => storeNat 1 1000 v (fun n => onSharing fun p => { p with decayStep := n }) s
  | 10 => storeNat 0 65535 v (fun n => onSharing fun p => { p with brakeHold := n }) s
  | 11 =>
    withIndex 16 index s fun i =>
      storeNat 0 1000 v (fun n => onSharing fun p => { p with distribution := alter p.distribution i fun _ => n }) s
  | _ => (.range, s)

/-! ## Groups 2 and 3: readiness, limits, lists -/

/-- The node's role has a rated figure A (R80). -/
def hasRatedA : Role → Bool
  | .genset => true | .pack => true | .traction => true | .friction => true
  | .none => false | .demand => false

/-- The node's role has a rated figure B (R80). -/
def hasRatedB : Role → Bool
  | .pack => true | .traction => true
  | .none => false | .demand => false | .genset => false | .friction => false

/-- The point a value carries: x in the high 16 bits, signed, and f in the low 16 (R82, R199). -/
def pointOf (v : BitVec 32) : CurvePoint × Bool :=
  let f := (v.extractLsb' 0 16).toNat
  ({ x := (v.extractLsb' 16 16).toInt, f := min 1000 f }, decide (1000 < f))

/-- Group 2 (R69, R71, R80, R82). -/
def loadReadiness (place : Nat) (index : Byte) (v : BitVec 32) (s : State) : Reply × State :=
  match place with
  | 0 => storeNat 0 3 v (fun n => onItems fun k => { k with startRetries := n }) s
  | 1 => storeNat 0 65535 v (fun n => onItems fun k => { k with minOn := n }) s
  | 2 => storeNat 0 65535 v (fun n => onItems fun k => { k with minOff := n }) s
  | 3 => storeNat 0 65535 v (fun n => onItems fun k => { k with retryGap := n }) s
  | 4 => storeNat 0 1 v (fun n => onItems fun k => { k with autoEngage := decide (n = 1) }) s
  | 5 => if hasRatedA s.role then storeNat 0 6000 v (fun n => onItems fun k => { k with ratedA := n }) s else (.range, s)
  | 6 => if hasRatedB s.role then storeNat 0 6000 v (fun n => onItems fun k => { k with ratedB := n }) s else (.range, s)
  | 7 => storeNat 0 8 v (fun n => onItems fun k => { k with curveCount := n }) s
  | 8 =>
    withIndex 8 index s fun i =>
      let p := pointOf v
      (replyFor p.2, onItems (fun k => { k with curve := alter k.curve i fun _ => p.1 }) s)
  | _ => (.range, s)

/-- Group 3 (R85, R87, R89). -/
def loadLists (place : Nat) (index : Byte) (v : BitVec 32) (s : State) : Reply × State :=
  match place with
  | 0 => storeNat 0 64 v (fun n => onItems fun k => { k with entryStart := numberOrNone 64 n }) s
  | 1 => storeNat 0 64 v (fun n => onItems fun k => { k with exitStart := numberOrNone 64 n }) s
  | 2 => storeNat 1 65535 v (fun n => onItems fun k => { k with entryBudget := n }) s
  | 3 => storeNat 1 65535 v (fun n => onItems fun k => { k with exitBudget := n }) s
  | 4 => storeNat 0 1 v (fun n => onItems fun k => { k with protectedTargets := decide (n = 1) }) s
  | 5 =>
    withIndex 4 index s fun l =>
      storeNat 0 1 v
        (fun n => onItems fun k => { k with discretes := alter k.discretes l fun d => { d with retrigger := decide (n = 1) } }) s
  | _ => (.range, s)

/-! ## Group 4: measurement (R113) -/

/-- One analogue channel's items changed; its seed mark is set (R99). -/
def onChannel (c : Fin 4) (f : ChannelItems → ChannelItems) (s : State) : State :=
  { s with
    items := { s.items with channels := alter s.items.channels c f }
    wheel := { s.wheel with channels := alter s.wheel.channels c fun x => { x with seed := true } } }

/-- One monitor's items changed; the monitor restarts (R102). -/
def onMonitor (m : Fin 2) (f : MonitorItems → MonitorItems) (s : State) : State :=
  { s with
    items := { s.items with monitors := alter s.items.monitors m f }
    wheel := { s.wheel with monitors := alter s.wheel.monitors m fun _ => { tripped := false, run := 0 } } }

/-- A capture channel restarted (R103, R109): an expiry that was due does not come. -/
def restartChannel (c : Capture) : Capture := { Capture.power with struck := strikes c.timer c.struck }

/-- The demodulation state restarted: the duty is kept, and an expiry that was due does not come (R112). -/
def restartDemod (d : Demod) : Demod := { signalAbsent d with struck := strikes d.timer d.struck }

/-- One capture channel's items changed; the channel restarts, and at C1 the demodulation state too (R109). -/
def onCapture (n : CapName) (f : CaptureItems → CaptureItems) (s : State) : State :=
  match n with
  | .c0 =>
    { s with items := { s.items with capture0 := f s.items.capture0 }, capture := { s.capture with c0 := restartChannel s.capture.c0 } }
  | .c1 =>
    { s with
      items := { s.items with capture1 := f s.items.capture1 }
      capture := { s.capture with c1 := restartChannel s.capture.c1, demod := restartDemod s.capture.demod } }

/-- The capture channel an index names. -/
def capOf (i : Fin 2) : CapName := if i = 0 then .c0 else .c1

/-- The capture mode a code names (R104). -/
def captureModeOf (code : Nat) : CaptureMode :=
  match code with
  | 0 => .everyEdge | 1 => .every4th | 2 => .every16th | _ => .demodulate

/-- The last capture mode code of a channel: C0 has no DEMODULATE (R104). -/
def lastMode : CapName → Nat
  | .c0 => 2
  | .c1 => 3

/-- Group 4 (R113). The nominal period has one entry, at C1: index 0 is refused with RANGE (DEDUCED, notes/assumptions/13.md). -/
def loadMeasurement (place : Nat) (index : Byte) (v : BitVec 32) (s : State) : Reply × State :=
  match place with
  | 0 =>
    withIndex 8 index s fun p =>
      storeNat 0 4 v
        (fun n t =>
          { t with
            items := { t.items with map := alter t.items.map p fun _ => numberOrNone 4 n }
            wheel := { t.wheel with channels := Vector.ofFn fun c => { t.wheel.channels[c] with seed := true } } })
        s
  | 1 => withIndex 4 index s fun c => storeInt (-32768) 32767 v (fun n => onChannel c fun k => { k with offset := n }) s
  | 2 => withIndex 4 index s fun c => storeInt (-32768) 32767 v (fun n => onChannel c fun k => { k with gain := n }) s
  | 3 => withIndex 4 index s fun c => storeNat 0 7 v (fun n => onChannel c fun k => { k with shift := n }) s
  | 4 => withIndex 2 index s fun m => storeNat 0 4 v (fun n => onMonitor m fun k => { k with channel := numberOrNone 4 n }) s
  | 5 => withIndex 2 index s fun m => storeInt (-32768) 32767 v (fun n => onMonitor m fun k => { k with low := n }) s
  | 6 => withIndex 2 index s fun m => storeInt (-32768) 32767 v (fun n => onMonitor m fun k => { k with high := n }) s
  | 7 => withIndex 2 index s fun m => storeNat 1 255 v (fun n => onMonitor m fun k => { k with count := n }) s
  | 8 =>
    withIndex 2 index s fun c =>
      storeNat 0 (lastMode (capOf c)) v (fun n => onCapture (capOf c) fun k => { k with mode := captureModeOf n }) s
  | 9 =>
    withIndex 2 index s fun c =>
      storeNat 0 1 v (fun n => onCapture (capOf c) fun k => { k with form := if n = 0 then .rpm else .vehicle }) s
  | 10 => withIndex 2 index s fun c => storeNat 1 1000 v (fun n => onCapture (capOf c) fun k => { k with pulsesPerRev := n }) s
  | 11 => withIndex 2 index s fun c => storeNat 1 10000 v (fun n => onCapture (capOf c) fun k => { k with mmPerPulse := n }) s
  | 12 => withIndex 2 index s fun c => storeNat 10 2000 v (fun n => onCapture (capOf c) fun k => { k with timeoutMs := n }) s
  | 13 =>
    withIndex 2 index s fun c =>
      if c = 1 then
        storeNat 100 65535 v (fun n t => onCapture .c1 id { t with items := { t.items with nominal := n } }) s
      else (.range, s)
  | _ => (.range, s)

/-! ## Group 5: outputs and lines -/

/-- The output an index names (R199). -/
def outOf (i : Fin 2) : OutName := if i = 0 then .a else .b

/-- One output's items changed. -/
def onOutputItems (n : OutName) (f : OutputItems → OutputItems) (s : State) : State :=
  match n with
  | .a => onItems (fun k => { k with outputA := f k.outputA }) s
  | .b => onItems (fun k => { k with outputB := f k.outputB }) s

/-- An enable mask loaded: a trigger for the output if a source that it enables is active (R118). Bits 0 to 6 name the sources in the order of the table of R118 (DESIGN CHOICE, notes/assumptions/60.md). A mask above 127 comes here as 127, all seven sources, and is answered CLAMPED (DESIGN CHOICE, notes/assumptions/38.md). -/
def loadMask (n : OutName) (mask : Nat) (s : State) : State :=
  let t := onOutputItems n (fun k => { k with enable := BitVec.ofNat 7 mask }) s
  if enabledActive t n then trigger n t else t

/-- The map of output A changed: the pending duty of output A is set to the rest duty (R117). -/
def onMap (f : Items → Items) (s : State) : State :=
  let t := onItems f s
  onOutput .a (fun o => { o with pending := restDuty t }) t

/-- One shutdown line's items changed. -/
def onLine (l : Fin 4) (f : LineItems → LineItems) (s : State) : State :=
  onItems (fun k => { k with lines := alter k.lines l f }) s

/-- A line's active level loaded: the line is judged anew, and a passage to active counts (R118, R128). -/
def loadLevel (l : Fin 4) (high : Bool) (s : State) : State :=
  let t := onLine l (fun k => { k with activeHigh := high }) s
  if lineActive t l && !lineActive s l then lineBecomesActive l t else t

/-- A line's safe state loaded: a line that has not been driven moves to it at once (R130). -/
def loadSafeState (l : Fin 4) (on : Bool) (s : State) : State :=
  { s with
    items := { s.items with discretes := alter s.items.discretes l fun d => { d with safeOn := on } }
    outputs :=
      { s.outputs with lines := alter s.outputs.lines l fun d => if d.driven then d else { d with on := on } } }

/-- The shutdown state a code names (R115). -/
def shutdownPinOf (code : Nat) : ShutdownPin :=
  match code with
  | 0 => .safeDuty | 1 => .holdLow | _ => .release

/-- The cease kind a code names (R128). -/
def ceaseKindOf (code : Nat) : Option CeaseKind :=
  match code with
  | 0 => none | 1 => some .traction | _ => some .link

/-- Group 5 (R115, R117, R118, R128, R130). -/
def loadOutputs (place : Nat) (index : Byte) (v : BitVec 32) (s : State) : Reply × State :=
  match place with
  | 0 => withIndex 2 index s fun o => storeNat 500 10000 v (fun n => onOutputItems (outOf o) fun k => { k with period := n }) s
  | 1 =>
    withIndex 2 index s fun o =>
      storeNat 0 1 v (fun n => onOutputItems (outOf o) fun k => { k with entry := if n = 0 then .immediate else .atPeriodEnd }) s
  | 2 =>
    withIndex 2 index s fun o =>
      storeNat 0 2 v (fun n => onOutputItems (outOf o) fun k => { k with shutdownPin := shutdownPinOf n }) s
  | 3 => withIndex 2 index s fun o => storeNat 0 1000 v (fun n => onOutputItems (outOf o) fun k => { k with safeDuty := n }) s
  | 4 =>
    withIndex 2 index s fun o =>
      storeNat 0 1 v (fun n => onOutputItems (outOf o) fun k => { k with restart := if n = 0 then .automatic else .latched }) s
  | 5 => withIndex 2 index s fun o => storeNat 0 127 v (fun n => loadMask (outOf o) n) s
  | 6 =>
    withIndex 2 index s fun o =>
      if o = 0 then storeNat 0 1000 v (fun n => onMap fun k => { k with dutyLo := n }) s else (.range, s)
  | 7 =>
    withIndex 2 index s fun o =>
      if o = 0 then storeNat 0 1000 v (fun n => onMap fun k => { k with dutyHi := n }) s else (.range, s)
  | 8 => withIndex 4 index s fun l => storeNat 0 1 v (fun n => loadLevel l (decide (n = 0))) s
  | 9 => withIndex 4 index s fun l => storeNat 0 2 v (fun n => onLine l fun k => { k with cease := ceaseKindOf n }) s
  | 10 => withIndex 4 index s fun l => storeNat 1 65535 v (fun n => onLine l fun k => { k with duration := n }) s
  | 11 => withIndex 4 index s fun l => storeNat 0 1 v (fun n => loadSafeState l (decide (n = 0))) s
  | _ => (.range, s)

/-! ## Group 6: the role's own items -/

/-- The Demand Role's items (R135). -/
def loadDemandItem (place : Nat) (v : BitVec 32) (s : State) : Reply × State :=
  let on (f : DemandItems → DemandItems) : State → State := onItems fun k => { k with demand := f k.demand }
  match place with
  | 0 => storeNat 0 6000 v (fun n => on fun k => { k with driveMax := n }) s
  | 1 => storeNat 0 6000 v (fun n => on fun k => { k with brakeMax := n }) s
  | 2 => storeNat 0 999 v (fun n => on fun k => { k with deadband := n }) s
  | 3 => storeNat 0 1000 v (fun n => on fun k => { k with threshold := n }) s
  | 4 => storeNat 0 1000 v (fun n => on fun k => { k with tolerance := n }) s
  | 5 => storeNat 1 6000 v (fun n => on fun k => { k with rampUp := n }) s
  | 6 => storeNat 0 65535 v (fun n => on fun k => { k with stopSpeed := n }) s
  | 7 => storeNat 0 1 v (fun n => on fun k => { k with doorHigh := decide (n = 0) }) s
  | _ => (.range, s)

/-- The pack's capacity: Qr is brought into it, the remainder set to 0, the SOC formed anew (R155). -/
def loadPackItem (place : Nat) (v : BitVec 32) (s : State) : Reply × State :=
  match place with
  | 0 => storeNat 10 1000 v (fun n t => loadCharge t.roles.pack.charge (onItems (fun k => { k with capacityAh := n }) t)) s
  | _ => (.range, s)

/-- The traction role's items (R165). -/
def loadTractionItem (place : Nat) (v : BitVec 32) (s : State) : Reply × State :=
  let on (f : TractionItems → TractionItems) : State → State := onItems fun k => { k with traction := f k.traction }
  match place with
  | 0 => storeNat 1 10000 v (fun n => on fun k => { k with torqueMax := n }) s
  | 1 => storeNat 1 10000 v (fun n => on fun k => { k with rpmFloor := n }) s
  | 2 => storeNat 0 10000 v (fun n => on fun k => { k with fadeSpeed := n }) s
  | _ => (.range, s)

/-- T_amb loaded: the lining temperature estimate is set to it and handed on (R171, R177). -/
def loadAmbient (n : Int) (s : State) : State :=
  deriveLimits
    { s with
      items := { s.items with friction := { s.items.friction with ambient := n } }
      roles := { s.roles with friction := { s.roles.friction with temp := n, aux := n } } }

/-- The friction role's items (R171). -/
def loadFrictionItem (place : Nat) (v : BitVec 32) (s : State) : Reply × State :=
  let on (f : FrictionItems → FrictionItems) : State → State := onItems fun k => { k with friction := f k.friction }
  match place with
  | 0 => storeNat 0 1000 v (fun n => on fun k => { k with holdDuty := n }) s
  | 1 => storeInt (-400) 12000 v loadAmbient s
  | 2 => storeNat 0 10000 v (fun n => on fun k => { k with heating := n }) s
  | 3 => storeNat 0 65535 v (fun n => on fun k => { k with cooling := n }) s
  | 4 => storeNat 0 65535 v (fun n => on fun k => { k with thickness0 := n }) s
  | 5 => storeNat 0 65535 v (fun n => on fun k => { k with thickness1000 := n }) s
  | _ => (.range, s)

/-- Group 6; a GENSET node and a node of no role have none (R199). -/
def loadRole (place : Nat) (v : BitVec 32) (s : State) : Reply × State :=
  match s.role with
  | .none => (.range, s)
  | .genset => (.range, s)
  | .demand => loadDemandItem place v s
  | .pack => loadPackItem place v s
  | .traction => loadTractionItem place v s
  | .friction => loadFrictionItem place v s

/-! ## Group 7: wear slots (R180, R181) -/

/-- The wear kind a code names (R181, R199). -/
def wearKindOf : Nat → Option WearKind
  | 0 => some .runTime | 1 => some .starts | 2 => some .failedStarts | 3 => some .highLoadTime | 4 => some .coolantTemp
  | 5 => some .throughput | 6 => some .deepDischarges | 7 => some .hotTime | 8 => some .packTemp | 9 => some .driveEnergy
  | 10 => some .regenEnergy | 11 => some .motorTemp | 12 => some .liningEnergy | 13 => some .liningTemp
  | 14 => some .liningThickness | 15 => some .holdApplies | 16 => some .pedalDisagree | 17 => some .bothPedals
  | _ => none

/-- A slot's record replaced. -/
def putSlot (i : Fin 12) (r : WearRecord) (s : State) : State :=
  { s with wear := { s.wear with slots := alter s.wear.slots i fun _ => some r } }

/-- A slot's kind loaded (R180); a slot that passes from UNUSED to CLEAR rewrites the self-entry's WARN group (R191). -/
def loadKind (i : Fin 12) (v : BitVec 32) (s : State) : Reply × State :=
  match wearKindOf v.toNat with
  | none => (.wrongKind, s)
  | some k =>
    if kindAllowed s.role k then
      let rewritten := if (s.wear.slots[i]).isNone then s.round.count else s.wear.rewritten
      (.ok, putSlot i (freshRecord k) { s with wear := { s.wear with rewritten } })
    else (.wrongKind, s)

/-- A threshold as a slot's kind reads it: unsigned for RISING kinds, signed for level kinds (R180). -/
def thresholdOf (k : WearKind) (v : BitVec 32) : Int :=
  match kindDirection k with
  | .rising => v.toNat
  | .levelHighBad => v.toInt
  | .levelLowBad => v.toInt

/-- Group 7: an item of an UNUSED slot, or one that its kind does not have, is refused with WRONG KIND. -/
def loadSlot (place : Nat) (index : Byte) (v : BitVec 32) (s : State) : Reply × State :=
  if 6 < place then (.range, s)
  else
    withIndex 12 index s fun i =>
      if place = 0 then loadKind i v s
      else
        match s.wear.slots[i] with
        | none => (.wrongKind, s)
        | some r =>
          match place with
          | 1 => (.ok, putSlot i { r with watch := thresholdOf r.kind v } s)
          | 2 => (.ok, putSlot i { r with alarm := thresholdOf r.kind v } s)
          | 3 =>
            if kindDirection r.kind = .rising then (.wrongKind, s)
            else storeNat 0 32767 v (fun n => putSlot i { r with hysteresis := n }) s
          | 4 => storeNat 0 1000 v (fun n => putSlot i { r with watchFactor := n }) s
          | 5 => storeNat 0 1000 v (fun n => putSlot i { r with alarmFactor := n }) s
          | _ =>
            if r.kind = .hotTime then storeInt (-32768) 32767 v (fun n => putSlot i { r with hot := n }) s else (.wrongKind, s)

/-! ## Group 8: attention order (R204) -/

/-- Group 8. -/
def loadAttention (place : Nat) (v : BitVec 32) (s : State) : Reply × State :=
  match place with
  | 0 => storeNat 0 5 v (fun n => onItems fun k => { k with groupOrder := n }) s
  | 1 => storeNat 0 1 v (fun n => onItems fun k => { k with groupA := decide (n = 1) }) s
  | 2 => storeNat 0 1 v (fun n => onItems fun k => { k with groupB := decide (n = 1) }) s
  | 3 => storeNat 0 1 v (fun n => onItems fun k => { k with groupC := decide (n = 1) }) s
  | _ => (.range, s)

/-! ## LOAD ITEM, LOAD STEP, RESTORE WEAR -/

/-- LOAD ITEM: LOCKED after LOCK, otherwise the item its code names (R197, R199). -/
def doLoadItem (item : BitVec 16) (index : Byte) (v : BitVec 32) (s : State) : Reply × State :=
  if s.locked then (.locked, s)
  else
    let place := (lowByte item).toNat
    match (highByte item).toNat with
    | 0 => loadLink place v s
    | 1 => loadSharing place index v s
    | 2 => loadReadiness place index v s
    | 3 => loadLists place index v s
    | 4 => loadMeasurement place index v s
    | 5 => loadOutputs place index v s
    | 6 => loadRole place v s
    | 7 => loadSlot place index v s
    | 8 => loadAttention place v s
    | _ => (.range, s)

/-- An operand with the mark that it was brought into range. -/
abbrev Operand (α : Type) : Type := α × Bool

/-- An unsigned operand brought into range. -/
def operandNat (lo hi n : Nat) : Operand Nat := (bringNat lo hi n, decide (bringNat lo hi n ≠ n))

/-- A line, channel or input number brought into 0 to 3. -/
def operandIndex (n : Nat) : Operand (Fin 4) := (⟨min 3 n, by omega⟩, decide (3 < n))

/-- A field of the nine operand bytes: the one that starts at byte `k`, in `w` bytes, byte 0 being sent first. -/
def operandField (operands : BitVec 72) (k w : Nat) : Nat := (operands.toNat / 256 ^ (9 - k - w)) % 256 ^ w

/-- A SET's target and value (R85). -/
def setOf (operands : BitVec 72) : Operand SetTarget :=
  let code := operandField operands 0 1
  let value := operandNat 0 1000 (operandField operands 1 2)
  let line := operandIndex (operandField operands 1 1)
  match code with
  | 0 => (.outputB value.1, value.2)
  | 1 => (.lineOn line.1, line.2)
  | 2 => (.lineOff line.1, line.2)
  | 3 => (.outputA value.1, value.2)
  | _ => (.limitOverride value.1, value.2 || decide (4 < code))

/-- A capture channel number, brought into 0 to 1. -/
def operandCap (n : Nat) : Operand CapName := (if n = 0 then .c0 else .c1, decide (1 < n))

/-- A condition of HOLD or SKIP in the six bytes that start at byte 0 (R85, R199). -/
def conditionOf (operands : BitVec 72) : Operand Condition :=
  let code := operandField operands 0 1
  let source := operandField operands 1 1
  let raw : BitVec 32 := BitVec.ofNat 32 (operandField operands 2 4)
  let channel := operandIndex source
  let cap := operandCap source
  let threshold := bring (-32768) 32767 raw.toInt
  let outside := decide (threshold ≠ raw.toInt)
  let speed := operandNat 0 65535 raw.toNat
  match code with
  | 0 => (.channelAtLeast channel.1 threshold, channel.2 || outside)
  | 1 => (.channelAtMost channel.1 threshold, channel.2 || outside)
  | 2 => (.speedAtLeast cap.1 speed.1, cap.2 || speed.2)
  | 3 => (.speedAtMost cap.1 speed.1, cap.2 || speed.2)
  | 4 => (.inputHigh channel.1, channel.2)
  | 5 => (.inputLow channel.1, channel.2)
  | _ => (.roundMatch (raw.extractLsb' 16 16) (raw.extractLsb' 0 16), decide (6 < code))

/-- The step that a kind code and nine operand bytes name (R85, R199). -/
def stepOf (kind : Byte) (operands : BitVec 72) : Operand Step :=
  match kind.toNat with
  | 0 => let x := setOf operands; (.set x.1, x.2)
  | 1 =>
    let line := operandIndex (operandField operands 0 1)
    let length := operandNat 1 255 (operandField operands 1 1)
    (.pulse line.1 length.1, line.2 || length.2)
  | 2 =>
    let c := conditionOf operands
    let timeout := operandNat 1 65535 (operandField operands 6 2)
    let flag := operandField operands 8 1
    (.hold c.1 timeout.1 (decide (flag ≠ 0)), c.2 || timeout.2 || decide (1 < flag))
  | 3 => let c := conditionOf operands; (.skip c.1, c.2)
  | 4 => let k := operandNat 1 65535 (operandField operands 0 2); (.pause k.1, k.2)
  | 5 => (.call (operandField operands 0 1), false)
  | 6 => (.ret, false)
  | 7 => (.jump (operandField operands 0 1), false)
  | n =>
    let code := operandField operands 0 1
    (.end_ (decide (code = 0)), decide (1 < code) || decide (8 < n))

/-! ## The packing of a step, written from the same tables as its reading (R85, R199) -/

/-- The condition code, source byte and four-byte operand of a condition (R85, R199). -/
def packCondition : Condition → Nat × Nat × Nat
  | .channelAtLeast c t => (0, c.val, (t % 4294967296).toNat)
  | .channelAtMost c t => (1, c.val, (t % 4294967296).toNat)
  | .speedAtLeast c v => (2, (match c with | .c0 => 0 | .c1 => 1), v)
  | .speedAtMost c v => (3, (match c with | .c0 => 0 | .c1 => 1), v)
  | .inputHigh i => (4, i.val, 0)
  | .inputLow i => (5, i.val, 0)
  | .roundMatch m v => (6, 0, m.toNat * 65536 + v.toNat)

/-- The six bytes of a condition as one number. -/
def conditionBytes (c : Condition) : Nat :=
  match packCondition c with
  | (code, source, operand) => code * 256 ^ 5 + source * 256 ^ 4 + operand

/-- The target code and the operands of a SET, in the nine operand bytes. -/
def packTarget : SetTarget → Nat
  | .outputB v => v * 256 ^ 6
  | .lineOn l => 1 * 256 ^ 8 + l.val * 256 ^ 7
  | .lineOff l => 2 * 256 ^ 8 + l.val * 256 ^ 7
  | .outputA v => 3 * 256 ^ 8 + v * 256 ^ 6
  | .limitOverride v => 4 * 256 ^ 8 + v * 256 ^ 6

/-- The kind byte and the nine operand bytes of a step, as LOAD STEP carries them. -/
def packStep : Step → Byte × BitVec 72
  | .set t => (0, BitVec.ofNat 72 (packTarget t))
  | .pulse l k => (1, BitVec.ofNat 72 (l.val * 256 ^ 8 + k * 256 ^ 7))
  | .hold c timeout ignore => (2, BitVec.ofNat 72 (conditionBytes c * 256 ^ 3 + timeout * 256 + ignore.toNat))
  | .skip c => (3, BitVec.ofNat 72 (conditionBytes c * 256 ^ 3))
  | .pause k => (4, BitVec.ofNat 72 (k * 256 ^ 7))
  | .call t => (5, BitVec.ofNat 72 (t * 256 ^ 8))
  | .ret => (6, 0)
  | .jump t => (7, BitVec.ofNat 72 (t * 256 ^ 8))
  | .end_ ready => (8, BitVec.ofNat 72 ((if ready then 0 else 1) * 256 ^ 8))

/-- A condition's operand lies in its range (R85). -/
def conditionInRange : Condition → Bool
  | .channelAtLeast _ t => decide (-32768 ≤ t) && decide (t ≤ 32767)
  | .channelAtMost _ t => decide (-32768 ≤ t) && decide (t ≤ 32767)
  | .speedAtLeast _ v => decide (v ≤ 65535)
  | .speedAtMost _ v => decide (v ≤ 65535)
  | .inputHigh _ => true
  | .inputLow _ => true
  | .roundMatch _ _ => true

/-- A SET's value lies in its range (R85). -/
def targetInRange : SetTarget → Bool
  | .outputB v => decide (v ≤ 1000)
  | .lineOn _ => true
  | .lineOff _ => true
  | .outputA v => decide (v ≤ 1000)
  | .limitOverride v => decide (v ≤ 1000)

/-- Every operand of a step lies in its range (R85). -/
def stepInRange : Step → Bool
  | .set t => targetInRange t
  | .pulse _ k => decide (1 ≤ k) && decide (k ≤ 255)
  | .hold c timeout _ => conditionInRange c && decide (1 ≤ timeout) && decide (timeout ≤ 65535)
  | .skip c => conditionInRange c
  | .pause k => decide (1 ≤ k) && decide (k ≤ 65535)
  | .call t => decide (t ≤ 255)
  | .ret => true
  | .jump t => decide (t ≤ 255)
  | .end_ _ => true

/-- LOAD STEP (R199). -/
def doLoadStep (index kind : Byte) (operands : BitVec 72) (s : State) : Reply × State :=
  if s.locked then (.locked, s)
  else
    withIndex 64 index s fun i =>
      let x := stepOf kind operands
      (replyFor x.2, { s with engine := { s.engine with memory := alter s.engine.memory i fun _ => x.1 } })

/-- RESTORE WEAR: the value of a RISING slot (R190), or with slot 255 at a PACK node its charge (R160). -/
def doRestoreWear (slot : Byte) (v : BitVec 32) (s : State) : Reply × State :=
  if s.locked then (.locked, s)
  else if slot.toNat = 255 ∧ s.role = .pack then
    (replyFor (decide (capacityMas s.items < v.toNat)), loadCharge v.toNat s)
  else
    withIndex 12 slot s fun i =>
      match s.wear.slots[i] with
      | none => (.wrongKind, s)
      | some r =>
        if kindDirection r.kind = .rising then (.ok, putSlot i { r with value := v.toNat, carry := 0 } s) else (.wrongKind, s)

end Sys2Proof.Machine
end

