-- ==== Sys2Proof/Machine/Answers.lean ====
section
/-! DEFINITION. The answers of the reading commands, byte by byte (R41, R67, R127, R180, R193, R198, R201, R205). Every answer has a length of its own that no state changes. -/

namespace Sys2Proof.Machine

/-! ## Figures as bytes (R198) -/

/-- The low `n` bytes of a number, most significant byte first. -/
def bytesOf : Nat → Nat → List Byte
  | 0, _ => []
  | n + 1, x => BitVec.ofNat 8 (x / 256 ^ n) :: bytesOf n x

/-- A figure of one byte. -/
def byte1 (n : Nat) : List Byte := bytesOf 1 n

/-- A figure of two bytes. -/
def byte2 (n : Nat) : List Byte := bytesOf 2 n

/-- A figure of four bytes. -/
def byte4 (n : Nat) : List Byte := bytesOf 4 n

/-- A signed figure of two bytes, two's complement. -/
def signed2 (x : Int) : List Byte := bytesOf 2 (x % 65536).toNat

/-- A signed figure of four bytes, two's complement. -/
def signed4 (x : Int) : List Byte := bytesOf 4 (x % 4294967296).toNat

/-- A mark or a flag: 1 set, 0 clear. -/
def markByte (b : Bool) : List Byte := byte1 b.toNat

/-! ## Codes -/

/-- Reply codes (R197). -/
def replyCode : Reply → Nat
  | .ok => 0 | .clamped => 1 | .empty => 2 | .wrongState => 8 | .locked => 9 | .wrongRole => 10 | .wrongKind => 11
  | .curveOrder => 12 | .role => 13 | .length => 14 | .range => 15

/-- Wear kinds in the order of the table of R181, HOT TIME at its first row (R199). -/
def wearCode : WearKind → Nat
  | .runTime => 0 | .starts => 1 | .failedStarts => 2 | .highLoadTime => 3 | .coolantTemp => 4 | .throughput => 5
  | .deepDischarges => 6 | .hotTime => 7 | .packTemp => 8 | .driveEnergy => 9 | .regenEnergy => 10 | .motorTemp => 11
  | .liningEnergy => 12 | .liningTemp => 13 | .liningThickness => 14 | .holdApplies => 15 | .pedalDisagree => 16 | .bothPedals => 17

/-- Directions in the order of R180. -/
def directionCode : Direction → Nat
  | .rising => 0 | .levelHighBad => 1 | .levelLowBad => 2

/-- A warning source: its slot number, 12 DEFICIT, 13 ISOLATION (R191). -/
def sourceCode : Source → Nat
  | .slot i => i.val | .deficit => 12 | .isolation => 13

/-- Link states in the order of R21. -/
def linkCode : LinkState → Nat
  | .silent => 0 | .active => 1 | .isolated => 2 | .muted => 3

/-- Plan modes in the order of R64. -/
def planModeCode : PlanMode → Nat
  | .traction => 0 | .coast => 1 | .braking => 2

/-- Lists, in the order of R86. -/
def listCode : ListName → Nat
  | .entry => 0 | .exit => 1

/-- Verdicts: READY, FAILED, ABANDONED and, while the list runs, RUNNING (R86, R94, R95). -/
def verdictCode : Verdict → Nat
  | .ready => 0 | .failed => 1 | .abandoned => 2 | .running => 3

/-- Fail causes in the order of the table of R94. -/
def causeCode : FailCause → Nat
  | .end_ => 0 | .budget => 1 | .protected_ => 2 | .timeout => 3 | .stack => 4 | .index => 5

/-- Source shutdown states in the order of R115. -/
def shutdownCode : SourceState → Nat
  | .none => 0 | .entryPending => 1 | .automatic => 2 | .latched => 3

/-- Pin modes in the order of R115. -/
def pinCode : PinMode → Nat
  | .running => 0 | .shutdown => 1

/-- Capture modes in the order of R104. -/
def captureCode : CaptureMode → Nat
  | .everyEdge => 0 | .every4th => 1 | .every16th => 2 | .demodulate => 3

/-! ## READ PEER (R41) -/

/-- The freshness judgement of a record: FRESH 0, STALE 1, ABSENT 2 (R34). -/
def freshnessCode (s : State) (r : PeerRecord) : Nat := if r.present then (if isFresh s r then 0 else 1) else 2

/-- The STATE group's fields and arrival round; zeros for an absent group. -/
def stateBytes (g : Option StateGroup) : List Byte :=
  match g with
  | none => List.replicate 17 0
  | some g =>
    byte1 g.role.toNat ++ byte1 (readinessCode g.readiness) ++ byte2 g.limitA ++ byte2 g.limitB ++ signed2 g.actual ++ signed2 g.aux ++
      byte2 g.signature.toNat ++ byte1 (levelCode g.worst) ++ byte4 g.arrival.toNat

/-- The DEMAND group's fields and arrival round; zeros for an absent group. -/
def demandBytes (g : Option DemandGroup) : List Byte :=
  match g with
  | none => List.replicate 10 0
  | some g =>
    byte1 g.sequence.toNat ++ signed2 g.demand ++ byte2 g.speed ++ [demandFlagsByte g.flags] ++ byte4 g.arrival.toNat

/-- The WARN group's states and arrival round; zeros for an absent group. -/
def warnBytes (g : Option WarnGroup) : List Byte :=
  match g with
  | none => List.replicate 18 0
  | some g =>
    (Vector.ofFn fun i : Fin 12 => ((warnCode g.slots[i]).zeroExtend 8 : Byte)).toList ++
      [(alarmCode g.deficit).zeroExtend 8, (alarmCode g.isolation).zeroExtend 8] ++ byte4 g.arrival.toNat

/-- The READ PEER answer for a record (R41). -/
def peerBytes (s : State) (r : PeerRecord) : List Byte :=
  markByte r.present ++ byte1 (freshnessCode s r) ++ markByte r.discord ++ markByte r.surplus ++
    markByte r.state.isSome ++ markByte r.demand.isSome ++ markByte r.warn.isSome ++
    stateBytes r.state ++ demandBytes r.demand ++ warnBytes r.warn ++
    markByte r.lastSequence.isSome ++ [r.lastSequence.getD 0] ++ byte4 s.round.count.toNat

/-! ## READ SHARE (R67) -/

/-- The ten plan flags, the first-named in bit 0 of the first byte (R63, R198). -/
def planFlagBytes (f : PlanFlags) : List Byte :=
  byte1 (bitSet [f.demandStale, f.packBlind, f.tractionCease, f.linkCease, f.motorLimit, f.packDischarge, f.supplyShort, f.packCharge]) ++
    byte1 (bitSet [f.ceilingLifted, f.deficit])

/-- A figure that may be absent: its mark, then the figure or 0. -/
def markedSigned (x : Option Int) : List Byte := markByte x.isSome ++ signed2 (x.getD 0)

/-- A plan record's fields in the order of R64; zeros when no plan is held. -/
def planBytes (p : Option Plan) : List Byte :=
  match p with
  | none => List.replicate 75 0
  | some p =>
    byte2 p.number.toNat ++ byte4 p.round.toNat ++ byte1 (planModeCode p.body.mode) ++ signed2 p.body.demand ++ signed2 p.body.base ++
      signed2 p.body.supply ++ signed2 p.body.gSet ++ signed2 p.body.pb ++ signed2 p.body.rTot ++ signed2 p.body.fTot ++
      signed2 p.body.deficit ++ planFlagBytes p.body.flags ++ (allStations.flatMap fun i => markedSigned p.body.grants[i]) ++
      signed2 p.ownGrant

/-- A cease window: remainder, then the setter's mark, station and cause line (R43). -/
def windowBytes (w : Window) : List Byte :=
  byte2 w.left ++
    match w.setter with
    | none => List.replicate 3 0
    | some (i, l) => markByte true ++ byte1 i.val ++ byte1 l.val

/-- The READ SHARE answer (R67). -/
def shareBytes (s : State) : List Byte :=
  markByte s.share.plan.isSome ++ planBytes s.share.plan ++ signed2 s.share.held ++ byte2 s.share.staleCount ++
    markByte s.share.pass.isSome ++ markByte s.share.pendingDemand.isSome ++ windowBytes s.share.traction ++ windowBytes s.share.link

/-! ## READ WEAR (R180, R198) -/

/-- The READ WEAR answer of a slot: UNUSED is state code 3, the other fields 0 (R180, R198). -/
def wearBytes (r : Option WearRecord) : List Byte :=
  match r with
  | none => List.replicate 32 0 ++ byte1 3 ++ List.replicate 4 0
  | some r =>
    byte1 (wearCode r.kind) ++ byte1 (directionCode (kindDirection r.kind)) ++ signed4 r.value ++ signed4 r.watch ++ signed4 r.alarm ++
      byte2 r.hysteresis ++ byte2 r.watchFactor ++ byte2 r.alarmFactor ++ signed2 r.hot ++ bytesOf 8 r.carry ++ signed2 r.gate ++
      byte1 (levelCode r.state) ++ byte4 r.stamp.toNat

/-! ## READ STATUS (R201) -/

/-- The set of fault causes (R69). -/
def causeByte (c : Causes) : List Byte := byte1 (bitSet [c.start, c.stop, c.shutdown, c.clash])

/-- The list state: IDLE 0 or RUNNING 1, and the list's name (R86). -/
def listBytes (l : Option ListName) : List Byte :=
  match l with
  | none => [0, 0]
  | some n => byte1 1 ++ byte1 (listCode n)

/-- The outcome record: its mark, list and verdict, then the fail cause's mark, the cause and the fail step index (R94). -/
def outcomeBytes (o : Option ListOutcome) : List Byte :=
  match o with
  | none => List.replicate 6 0
  | some r =>
    markByte true ++ byte1 (listCode r.list) ++ byte1 (verdictCode r.verdict) ++
      match r.cause, r.failStep with
      | some c, some i => markByte true ++ byte1 (causeCode c) ++ byte1 i.val
      | _, _ => [0, 0, 0]

/-- One output's state (R133). -/
def outputBytes (s : State) (n : OutName) : List Byte :=
  let o := s.outputs.get n
  byte1 (shutdownCode o.source) ++ markByte o.resetHold ++ markByte (faultHolding s) ++ byte1 (pinCode o.pin) ++ byte2 o.active ++
    byte2 o.pending

/-- The four discrete lines: ON 0, OFF 1 (R130, R133). -/
def discreteBytes (s : State) : List Byte := allLines.flatMap fun l => byte1 (if s.outputs.lines[l].on then 0 else 1)

/-- A window monitor: CLEAR 0 or TRIPPED 1, and its run count (R101, R114). -/
def monitorBytes (m : Monitor) : List Byte := markByte m.tripped ++ byte1 m.run

/-- A capture channel: mode, overflow flag, reference mark, timer mark (R114). -/
def captureBytes (k : CaptureItems) (c : Capture) : List Byte :=
  let uses := decide (k.mode ≠ .demodulate)
  byte1 (captureCode k.mode) ++ markByte c.overflow ++ markByte (uses && c.reference.isSome) ++ markByte (uses && c.timer.isSome)

/-- The last outcome: its reply code, or 16 for none (R197, R199). -/
def lastOutcomeByte (o : Option Reply) : List Byte :=
  match o with
  | none => byte1 16
  | some r => byte1 (replyCode r)

/-- The role's own figures in four bytes; the generator request is ON 0, OFF 1, in the order R147 names them (R198, R201). -/
def roleBytes (s : State) : List Byte :=
  match s.role with
  | .genset => byte1 (if s.roles.genset.request then 0 else 1) ++ [0, 0, 0]
  | .traction => signed2 s.roles.traction.applied ++ signed2 s.roles.traction.torque
  | .none => [0, 0, 0, 0]
  | .demand => [0, 0, 0, 0]
  | .pack => [0, 0, 0, 0]
  | .friction => [0, 0, 0, 0]

/-- The READ STATUS answer (R201). -/
def statusBytes (s : State) : List Byte :=
  byte1 (readinessCode s.ready.state) ++ causeByte s.ready.causes ++ byte1 (linkCode s.link.state) ++ listBytes s.engine.list ++
    outcomeBytes s.engine.outcome ++ outputBytes s .a ++ markByte (gateHolds s) ++ outputBytes s .b ++
    byte1 (activeSources s).toNat ++ discreteBytes s ++ monitorBytes s.wheel.monitors[0] ++ monitorBytes s.wheel.monitors[1] ++
    captureBytes s.items.capture0 s.capture.c0 ++ captureBytes s.items.capture1 s.capture.c1 ++ markByte s.capture.demod.absent ++
    lastOutcomeByte s.port.lastOutcome ++ roleBytes s

/-! ## READ SNAPSHOT (R126, R127) -/

/-- The output's code: A 0, B 1. -/
def outCode : OutName → Nat
  | .a => 0 | .b => 1

/-- The READ SNAPSHOT answer (R127). -/
def snapshotBytes (r : Option ShutdownRecord) : List Byte :=
  match r with
  | none => List.replicate 17 0
  | some r =>
    markByte true ++ byte4 r.round.toNat ++ byte1 (outCode r.output) ++ markedSigned r.ownGrant ++ byte2 r.activeA ++ byte2 r.activeB ++
      markByte r.markA ++ markByte r.markB ++ byte1 r.sources.toNat ++ byte1 (readinessCode r.readiness)

/-! ## NEXT WARNING (R193) and READ ATTENTION (R204, R205) -/

/-- The NEXT WARNING answer: source, state, stamp; zeros for an empty queue. -/
def warningBytes (e : Option WarnEntry) : List Byte :=
  match e with
  | none => List.replicate 6 0
  | some e => byte1 (sourceCode e.source) ++ byte1 (levelCode e.level) ++ byte4 e.stamp.toNat

/-- The two sources of a group in their order, by its within-group flag (R204). -/
def groupOf (flag : Bool) (first second : Attn) : List Attn := if flag then [second, first] else [first, second]

/-- The six sources in rank order (R204). -/
def attnOrder (k : Items) : List Attn :=
  let a := groupOf k.groupA .shutdown .share
  let b := groupOf k.groupB .wear .step
  let c := groupOf k.groupC .link .capture
  match k.groupOrder with
  | 0 => a ++ b ++ c
  | 1 => a ++ c ++ b
  | 2 => b ++ a ++ c
  | 3 => b ++ c ++ a
  | 4 => c ++ a ++ b
  | _ => c ++ b ++ a

/-- The source READ ATTENTION names: the highest-ranked that is both pending and enabled (R205). -/
def namedSource (s : State) : Option Attn :=
  (attnOrder s.items).find? fun a => (s.attention.pending &&& s.attention.enable).getLsbD (attnBit a)

/-- The READ ATTENTION answer (R205). -/
def attentionBytes (s : State) : List Byte :=
  byte1
      (match namedSource s with
      | none => 0
      | some a => attnBit a + 1) ++
    byte1 s.attention.pending.toNat ++ byte1 s.attention.enable.toNat ++ markByte s.attention.master

end Sys2Proof.Machine
end

