-- ==== Sys2Proof/Machine/Restart.lean ====
section
/-! DEFINITION. The resets, LOCK, RESTART and the smaller effects of the commands that change state (R22, R23, R42, R68, R71, R75, R76, R96, R112, R123, R131, R132, R145, R154, R164, R179, R189, R195, R200, R206, R207). -/

namespace Sys2Proof.Machine

/-! ## Power-on reset and the reset pin (R22, R132, R196) -/

/-- The part after a reset: every block at its power-on values, the straps and pin levels sampled at its release. A select period in progress counts as no exchange (R196). -/
def resetTo (straps : Straps) (lines inputs : BitVec 4) (s : State) : State :=
  let t := State.powerOn straps lines inputs s.pins.analog
  { t with
    port :=
      { t.port with
        select :=
          match s.port.select with
          | .waiting => .waiting
          | .opened => .void
          | .answered _ => .void
          | .void => .void }
    orders := s.orders, pending := s.pending }

/-! ## LOCK (R71, R190, R200) -/

/-- The checks of LOCK, in order (R200). -/
def lockReply (s : State) : Reply :=
  if s.locked then .locked
  else if s.role = .none then .role
  else if ascending (curvePoints s.items) = false then .curveOrder
  else if s.items.dutyHi ≤ s.items.dutyLo then .range
  else .ok

/-- Some record leaves CLEAR when it is judged at LOCK (R190). -/
def leavesClear (s : State) : Bool :=
  s.wear.slots.toList.any fun x =>
    match x with
    | none => false
    | some r => decide (judgeRecord r ≠ .clear)

/-- The Link Controller at LOCK: SILENT to ACTIVE, or MUTED still (R21). -/
def lockLink (s : State) : State :=
  { s with link := { s.link with state := if s.link.state = .silent then .active else s.link.state } }

/-- The Peer Table at LOCK: DISCORD judged for every record, LINK attention at each entry (R38). -/
def lockPeers (s : State) : State :=
  let mark (i : Station) : Bool := decide (i ≠ s.self) && discordOf s s.peers[i]
  raiseIf (allStations.any fun i => mark i && !s.peers[i].discord) .link
    { s with peers := Vector.ofFn fun i => { s.peers[i] with discord := mark i } }

/-- The Wear Unit at LOCK: the first segment opened, every record judged from CLEAR (R183, R190). -/
def lockWear (s : State) : State :=
  judgeSlots (fun _ => true) (refreshGates false { s with wear := { s.wear with segment := some s.capture.micros } })

/-- The Link Controller and the Wear Unit at LOCK, in the order R194 leaves open. -/
def lockLinkAndWear (s : State) : State :=
  if leavesClear s then
    let (first, t) := takeOrder s
    if first then lockWear (lockLink t) else lockLink (lockWear t)
  else lockWear (lockLink s)

/-- A clash report held since before LOCK (R11, R71). -/
def applyClash (s : State) : State :=
  if s.link.clashHeld then
    enterFaulted (fun c => { c with clash := true }) { s with link := { s.link with clashHeld := false } }
  else s

/-- Output A found in a latched shutdown at LOCK (R71, R122). -/
def applyLatch (s : State) : State :=
  if s.outputs.a.source = .latched then enterFaulted (fun c => { c with shutdown := true }) s else s

/-- An accepted LOCK (R71, R200). -/
def acceptLock (s : State) : State :=
  autoEngage (applyLatch (applyClash (lockPeers (lockLinkAndWear (setReadiness .offline s)))))

/-! ## RESTART (R207 and the rules of each block) -/

/-- The Attention Controller: the pending set emptied (R207). -/
def restartAttention (s : State) : State := { s with attention := { s.attention with pending := 0 } }

/-- The Link Controller: ACTIVE with an empty outbox; a copy on the line is sent to its end and touches nothing (R23). -/
def restartLink (s : State) : State :=
  { s with
    link :=
      { s.link.clearAll with
        state := .active, streak := 0, holdOff := none, probeCount := 0, clashHeld := false
        tx := s.link.tx.map fun c => { c with own := false, detached := true } } }

/-- The Peer Table: every record cleared, the self-entry's DEMAND group kept and its SURPLUS mark cleared (R42). -/
def restartPeers (s : State) : State :=
  { s with
    peers :=
      Vector.ofFn fun i =>
        if i = s.self then { demand := s.peers[i].demand, lastSequence := s.peers[i].lastSequence } else {} }

/-- The Share Unit (R68). -/
def restartShare (s : State) : State :=
  { s with
    share :=
      { s.share with held := 0, staleCount := 0, pass := none, pendingDemand := none, traction := .closed, link := .closed, plan := none } }

/-- The Step Engine (R95, R96): a running list is abandoned, and pointer, budget, wait and pulses are cleared. -/
def restartEngine (s : State) : State :=
  let t := abandonList s
  { t with
    engine :=
      { t.engine with
        list := none, pointer := 0, stack := [], budget := 0, wait := .none, pulses := Vector.ofFn fun _ => 0, holdsA := false } }

/-- The Pulse Capture Unit (R103, R112). -/
def restartCapture (s : State) : State :=
  { s with
    capture :=
      { s.capture with
        c0 := restartChannel s.capture.c0, c1 := restartChannel s.capture.c1, demod := restartDemod s.capture.demod } }

/-- A command output at RESTART: no source shutdown, the reset hold set, in shutdown (R132). -/
def restartOutput (pending : Nat) (o : Output) : Output :=
  { o with source := .none, resetHold := true, inShutdown := true, pin := .shutdown, pending }

/-- The Command Output Unit, steps 1 to 4 and 6 (R132). -/
def restartOutputs (s : State) : State :=
  { s with
    outputs :=
      { s.outputs with
        a := restartOutput (restDuty s) s.outputs.a, b := restartOutput s.outputs.b.pending s.outputs.b, snapshot := none } }

/-- Role Logic (R134, R147, R155, R165, R171). -/
def restartRoles (s : State) : State :=
  { s with
    roles :=
      { s.roles with
        demand := { s.roles.demand with result := 0, rampBase := 0 }
        genset := { s.roles.genset with request := false }
        traction := { s.roles.traction with applied := 0, torque := 0, awaiting := false }
        friction :=
          { s.roles.friction with
            applied := 0, contributions := Vector.ofFn fun _ => 0, ownPart := 0, stopHold := false, lastCompletion := none,
            thicknessAbsent := true } } }

/-- The Readiness Controller, steps 1 to 3 (R69, R76). -/
def restartReadiness (s : State) : State :=
  setReadiness .offline
    { s with
      ready :=
        { s.ready with
          causes := { start := false, stop := false, shutdown := false, clash := false }, stopDest := .offline, startRetries := 0
          onCount := 0, offCount := s.items.minOff, gapCount := s.items.retryGap, limitOverride := 1000 } }

/-- A further warning source brought to CLEAR by RESTART; a change is stamped (R195). -/
def clearSource (now : Round) (f : FurtherSource) : FurtherSource := if f.alarm then { alarm := false, stamp := now } else f

/-- The warning queue rebuilt: one entry for each slot in WATCH or ALARM, in order (R195). -/
def rebuiltQueue (slots : Vector (Option WearRecord) 12) : List WarnEntry :=
  allSlots.filterMap fun i =>
    match slots[i] with
    | none => none
    | some r => if r.state = .clear then none else some { source := .slot i, level := r.state, stamp := r.stamp }

/-- The Wear Unit (R195). ISOLATION is cleared whatever the link was, MUTED among it (DEDUCED, notes/assumptions/16.md). -/
def restartWear (s : State) : State :=
  let queue := rebuiltQueue s.wear.slots
  raiseIf (!queue.isEmpty) .wear
    (deriveLimits
      { s with
        wear :=
          { s.wear with
            deficit := clearSource s.round.count s.wear.deficit, isolation := clearSource s.round.count s.wear.isolation, queue
            refresh := 99, factor := wearFactor s.wear, rewritten := s.round.count } })

/-- Each source that is active and enabled taken as a trigger (R132, step 7). -/
def restartTriggers (s : State) : State := triggerBoth (enabledActive s .a) (enabledActive s .b) s

/-- An accepted RESTART (R207), the blocks taken one after another. -/
def restartNode (s : State) : State :=
  let t := restartEngine (restartShare (restartPeers (restartLink (restartAttention s))))
  let t := restartReadiness (restartRoles (restartOutputs (restartCapture t)))
  autoEngage (restartTriggers (restartWear t))

/-! ## The smaller effects -/

/-- The reply to ENGAGE (R71). -/
def engageReply (s : State) : Reply := if s.ready.state = .offline then .ok else .wrongState

/-- The reply to DISENGAGE (R72). -/
def disengageReply (s : State) : Reply :=
  match s.ready.state with
  | .standby => .ok | .starting => .ok | .ready => .ok | .derated => .ok | .stopping => .ok
  | .unconfigured => .wrongState | .offline => .wrongState | .faulted => .wrongState

/-- The reply to CLEAR FAULT: every cause in the set must be gone (R75). -/
def clearFaultReply (s : State) : Reply :=
  if s.ready.state = .faulted ∧ s.ready.causes.clash = false ∧
      (s.ready.causes.shutdown = false ∨ s.outputs.a.source ≠ .latched) then .ok
  else .wrongState

/-- An accepted CLEAR FAULT (R75). -/
def doClearFault (s : State) : State :=
  setReadiness .offline
    { s with
      ready :=
        { s.ready with causes := { start := false, stop := false, shutdown := false, clash := false }, startRetries := 0 } }

/-- An argument that is 1 or 0 (R198). -/
def bitReply (n : Byte) : Reply := if n.toNat ≤ 1 then .ok else .range

/-- The soft source set active or inactive (R131). -/
def doShutdown (on : Bool) (s : State) : State :=
  if on = s.outputs.soft then s
  else
    let t := { s with outputs := { s.outputs with soft := on } }
    if on then offerSource 6 t else t

/-- The output an argument names: A 0, B 1 (R198). -/
def outputOf (n : Byte) : OutName := if n = 0 then .a else .b

/-- The reply to RELEASE OUTPUT (R123). -/
def releaseReply (n : Byte) (s : State) : Reply :=
  if 1 < n.toNat then .range
  else if (s.outputs.get (outputOf n)).source = .latched ∧ enabledActive s (outputOf n) = false then .ok
  else .wrongState

/-- An accepted RELEASE OUTPUT (R123). -/
def doRelease (n : OutName) (s : State) : State := onOutput n (fun o => { o with source := .automatic }) s

/-- The reply to SET ZONE (R141). -/
def zoneReply (n : Byte) (s : State) : Reply := if s.role ≠ .demand then .wrongRole else bitReply n

/-- The quiet zone flag set or cleared (R141). -/
def doZone (on : Bool) (s : State) : State := { s with roles := { s.roles with demand := { s.roles.demand with quiet := on } } }

/-- The reply to SET CHARGE (R160). -/
def chargeReply (charge : Nat) (s : State) : Reply :=
  if s.role ≠ .pack then .wrongRole
  else if s.ready.state ≠ .offline then .wrongState
  else replyFor (decide (capacityMas s.items < charge))

/-- The reply to SERVICE RESET (R189). -/
def serviceReply (slot : Byte) (s : State) : Reply :=
  match indexIn 12 slot with
  | none => .range
  | some i =>
    match s.wear.slots[i] with
    | none => .wrongKind
    | some r => if kindDirection r.kind = .rising then .ok else .wrongKind

/-- An accepted SERVICE RESET: value and carry 0, state CLEAR (R189). -/
def doService (slot : Byte) (s : State) : State :=
  match indexIn 12 slot with
  | none => s
  | some i =>
    match s.wear.slots[i] with
    | none => s
    | some r => setLevel i .clear (putSlot i { r with value := 0, carry := 0 } s)

/-- The six sources a mask names; bits 6 and 7 are ignored (R206). -/
def maskOf (mask : Byte) : BitVec 6 := mask.extractLsb' 0 6

/-- The pending set replaced (R206). -/
def setPendingTo (p : BitVec 6) (s : State) : State := { s with attention := { s.attention with pending := p } }

/-- The enable set replaced (R206). -/
def setEnableTo (p : BitVec 6) (s : State) : State := { s with attention := { s.attention with enable := p } }

/-- The master enable set or cleared (R206). -/
def doMaster (on : Bool) (s : State) : State := { s with attention := { s.attention with master := on } }

end Sys2Proof.Machine
end

