-- ==== Sys2Proof/Machine/Port.lean ====
section
/-! DEFINITION. The exchange of the local port: the answer point, the deselect, the marks and the last outcome (R196, R197). -/

namespace Sys2Proof.Machine

/-- A command of the local port as its code fixes it (R198): how it is judged, the answer it forms when it is not refused, and its effect at deselect. -/
structure Request where
  code : Nat
  /-- The argument bytes as one number. -/
  argument : Nat
  judge : State → Reply
  answer : State → List Byte
  effect : Exchange → State → State

/-- The reply byte: the code, SHORT in bit 6 and WITHDRAWN in bit 7 (R197). -/
def replyByte (r : Reply) (short withdrawn : Bool) : Byte :=
  BitVec.ofNat 8 (replyCode r + 64 * short.toNat + 128 * withdrawn.toNat)

/-- The answer clocked out: that of the command, or zeros in its length for a refused one (R197). -/
def answerFor (r : Reply) (answer : List Byte) : List Byte := if isRefusal r then List.replicate answer.length 0 else answer

/-- The exchange noted at the answer point; a NEXT WARNING notes the entry it answers (R196, R202). -/
def exchangeOf (q : Request) (s : State) : Exchange :=
  { code := q.code, argument := q.argument, reply := q.judge s, answered := if q.code = 18 then s.wear.queue.head? else none }

/-- Select asserted: a select period is in progress and has not reached its answer point (R196). -/
def openSelect (s : State) : State := { s with port := { s.port with select := .opened } }

/-- The answer point: the command judged, the reply byte and the answer clocked out, the marks sent and cleared (R196, R197). -/
def answerPoint (q : Request) (s : State) : State :=
  { s with
    port :=
      { s.port with
        select := .answered (exchangeOf q s), short := false, withdrawn := false
        reply := replyByte (q.judge s) s.port.short s.port.withdrawn, answer := answerFor (q.judge s) (q.answer s) } }

/-- The select period ended with an outcome (R197). -/
def settle (outcome : Reply) (withdrawn : Bool) (s : State) : State :=
  { s with port := { s.port with select := .waiting, withdrawn := withdrawn || s.port.withdrawn, lastOutcome := some outcome } }

/-- A short exchange: LENGTH, and SHORT for the next reply byte (R196). -/
def endShort (s : State) : State :=
  { s with port := { s.port with select := .waiting, short := true, lastOutcome := some .length } }

/-- The deselect of an exchange that has passed its answer point: refused, withdrawn or carried out (R196, R197). -/
def finish (q : Request) (e : Exchange) (s : State) : State :=
  if isRefusal e.reply then settle e.reply false s
  else if e.reply = .empty then settle .empty false s
  else if isRefusal (q.judge s) then settle (q.judge s) true s
  else q.effect e (settle (q.judge s) false s)

/-- A deselect: of its own exchange, of one that has not reached its answer point, or of one that a reset cut (R196). -/
def deselect (q : Request) (s : State) : State :=
  match s.port.select with
  | .waiting => endShort s
  | .opened => endShort s
  | .void => { s with port := { s.port with select := .waiting } }
  | .answered e => if e.code = q.code ∧ e.argument = q.argument then finish q e s else endShort s

/-- An answer point given alone: in a select period that a reset cut it is no answer point, and the port waits for the next assertion of select (R196). -/
def reachAnswer (q : Request) (s : State) : State :=
  match s.port.select with
  | .waiting => answerPoint q s
  | .opened => answerPoint q s
  | .answered _ => answerPoint q s
  | .void => s

/-- The part of an exchange that a command stands for; a whole exchange begins with an assertion of select of its own (R196). -/
def runRequest (m : Moment) (q : Request) (s : State) : State :=
  match m with
  | .whole => deselect q (answerPoint q s)
  | .select => openSelect s
  | .answer => reachAnswer q s
  | .deselect => deselect q s

/-- A short exchange as a command of its own: it counts for nothing in a select period that a reset cut (R196). -/
def runShort (s : State) : State :=
  match s.port.select with
  | .waiting => endShort s
  | .opened => endShort s
  | .answered _ => endShort s
  | .void => { s with port := { s.port with select := .waiting } }

/-! ## The requests -/

/-- A request without an answer, whose loader gives its reply and its effect at once. -/
def loading (code argument : Nat) (f : State → Reply × State) : Request :=
  { code, argument, judge := fun s => (f s).1, answer := fun _ => [], effect := fun _ s => (f s).2 }

/-- A request without an answer. -/
def acting (code argument : Nat) (judge : State → Reply) (effect : State → State) : Request :=
  { code, argument, judge, answer := fun _ => [], effect := fun _ => effect }

/-- A request that only reads. -/
def reading (code argument : Nat) (judge : State → Reply) (answer : State → List Byte) : Request :=
  { code, argument, judge, answer, effect := fun _ s => s }

/-- Always OK. -/
def always (_ : State) : Reply := .ok

/-- LOAD ITEM (R199). -/
def loadItemRequest (item : BitVec 16) (index : Byte) (value : BitVec 32) : Request :=
  loading 1 (item ++ index ++ value).toNat (doLoadItem item index value)

/-- LOAD STEP (R199). -/
def loadStepRequest (index kind : Byte) (operands : BitVec 72) : Request :=
  loading 2 (index ++ kind ++ operands).toNat (doLoadStep index kind operands)

/-- RESTORE WEAR (R160, R190). -/
def restoreRequest (slot : Byte) (value : BitVec 32) : Request := loading 3 (slot ++ value).toNat (doRestoreWear slot value)

/-- LOCK (R200). -/
def lockRequest : Request := acting 4 0 lockReply acceptLock

/-- ENGAGE (R71). -/
def engageRequest : Request := acting 5 0 engageReply doEngage

/-- DISENGAGE (R72). -/
def disengageRequest : Request := acting 6 0 disengageReply doDisengage

/-- CLEAR FAULT (R75). -/
def clearFaultRequest : Request := acting 7 0 clearFaultReply doClearFault

/-- SHUTDOWN (R131). -/
def shutdownRequest (on : Byte) : Request := acting 8 on.toNat (fun _ => bitReply on) (doShutdown (decide (on = 1)))

/-- RELEASE OUTPUT (R123). -/
def releaseRequest (n : Byte) : Request := acting 9 n.toNat (releaseReply n) (doRelease (outputOf n))

/-- SET ZONE (R141). -/
def zoneRequest (on : Byte) : Request := acting 10 on.toNat (zoneReply on) (doZone (decide (on = 1)))

/-- SET CHARGE (R160). -/
def chargeRequest (charge : BitVec 32) : Request := acting 11 charge.toNat (chargeReply charge.toNat) (loadCharge charge.toNat)

/-- SERVICE RESET (R189). -/
def serviceRequest (slot : Byte) : Request := acting 12 slot.toNat (serviceReply slot) (doService slot)

/-- READ PEER (R41). -/
def peerRequest (station : Byte) : Request :=
  reading 13 station.toNat (fun _ => if station.toNat < 16 then .ok else .range)
    (fun s =>
      match indexIn 16 station with
      | none => peerBytes s {}
      | some i => peerBytes s (peer s i))

/-- READ SHARE (R67). -/
def shareRequest : Request := reading 14 0 always shareBytes

/-- READ WEAR (R198). -/
def wearRequest (slot : Byte) : Request :=
  reading 15 slot.toNat (fun _ => if slot.toNat < 12 then .ok else .range)
    (fun s =>
      match indexIn 12 slot with
      | none => wearBytes none
      | some i => wearBytes s.wear.slots[i])

/-- READ STATUS (R201). -/
def statusRequest : Request := reading 16 0 always statusBytes

/-- The snapshot emptied (R127). -/
def emptySnapshot (s : State) : State := { s with outputs := { s.outputs with snapshot := none } }

/-- READ SNAPSHOT (R127). An empty snapshot is replied OK too, since the answer's mark tells it, and EMPTY is named for NEXT WARNING alone (R193; DESIGN CHOICE, notes/assumptions/59.md). -/
def snapshotRequest : Request :=
  { code := 17, argument := 0, judge := always, answer := fun s => snapshotBytes s.outputs.snapshot, effect := fun _ => emptySnapshot }

/-- The answered entry removed from the head of the queue, if it still holds the state the answer carried (R193, R202). -/
def popAnswered (e : Exchange) (s : State) : State :=
  { s with
    wear :=
      { s.wear with
        queue :=
          match s.wear.queue, e.answered with
          | x :: rest, some a => if x.source = a.source ∧ x.level = a.level then rest else x :: rest
          | q, _ => q } }

/-- NEXT WARNING (R193, R202). -/
def warningRequest : Request :=
  { code := 18, argument := 0, judge := fun s => if s.wear.queue.isEmpty then .empty else .ok,
    answer := fun s => warningBytes s.wear.queue.head?, effect := popAnswered }

/-- READ ATTENTION (R205). -/
def attentionRequest : Request := reading 19 0 always attentionBytes

/-- SET ENABLE (R206). -/
def setEnableRequest (mask : Byte) : Request :=
  acting 20 mask.toNat always fun s => setEnableTo (s.attention.enable ||| maskOf mask) s

/-- CLEAR ENABLE (R206). -/
def clearEnableRequest (mask : Byte) : Request :=
  acting 21 mask.toNat always fun s => setEnableTo (s.attention.enable &&& ~~~(maskOf mask)) s

/-- SET PENDING (R206). -/
def setPendingRequest (mask : Byte) : Request :=
  acting 22 mask.toNat always fun s => setPendingTo (s.attention.pending ||| maskOf mask) s

/-- CLEAR PENDING (R206). -/
def clearPendingRequest (mask : Byte) : Request :=
  acting 23 mask.toNat always fun s => setPendingTo (s.attention.pending &&& ~~~(maskOf mask)) s

/-- MASTER (R206). -/
def masterRequest (on : Byte) : Request := acting 24 on.toNat (fun _ => bitReply on) (doMaster (decide (on = 1)))

/-- The reply to RESTART (R207). -/
def restartReply (s : State) : Reply := if s.locked then .ok else .wrongState

/-- RESTART (R207). -/
def restartRequest : Request := acting 25 0 restartReply restartNode

/-- A command code that names no command (R196). -/
def unknownRequest (code : Byte) : Request := acting code.toNat 0 (fun _ => .range) id

end Sys2Proof.Machine
end

