-- ==== Sys2Proof/Machine/LinkCommands.lean ====
section
/-! DEFINITION. The meanings of the resets and of the commands of the driveline link. -/

namespace Sys2Proof.Machine

open Host (Outcome)

/-- The levels of the discrete inputs as they stand at a command. -/
def withInputs (inputs : BitVec 4) (s : State) : State := { s with pins := { s.pins with inputs } }

/-- POWER_ON_RESET (R22, R24, R30, R43, R69, R96, R97, R103, R132, R207). -/
def execPowerOnReset (straps : Straps) (lines inputs : BitVec 4) (s : State) : Outcome State Fault Refusal :=
  .next (resetTo straps lines inputs s)

/-- RESET_PIN (R22): as power-on reset. -/
def execResetPin (straps : Straps) (lines inputs : BitVec 4) (s : State) : Outcome State Fault Refusal :=
  .next (resetTo straps lines inputs s)

/-- CEASE_FRAME_RECEIVED (R10, R51). -/
def execCeaseFrameReceived (f : Frame) (s : State) : Outcome State Fault Refusal :=
  match received f s with
  | some (.cease c) => .next (takeCease (senderOf f.precedence) c (awaitIdle s))
  | _ => .next s

/-- DEMAND_FRAME_RECEIVED (R10, R27, R33). -/
def execDemandFrameReceived (f : Frame) (inputs : BitVec 4) (s : State) : Outcome State Fault Refusal :=
  match received f s with
  | some (.demand c) => .next (takeDemand (senderOf f.precedence) c (awaitIdle (withInputs inputs s)))
  | _ => .next s

/-- STATE_FRAME_RECEIVED (R10, R31). -/
def execStateFrameReceived (f : Frame) (s : State) : Outcome State Fault Refusal :=
  match received f s with
  | some (.state c) => .next (takeState (senderOf f.precedence) c (awaitIdle s))
  | _ => .next s

/-- WARN_FRAME_RECEIVED (R10, R32). -/
def execWarnFrameReceived (f : Frame) (s : State) : Outcome State Fault Refusal :=
  match received f s with
  | some (.warn c) => .next (takeWarn (senderOf f.precedence) c (awaitIdle s))
  | _ => .next s

/-- FRAME_DISCARDED (R9). -/
def execFrameDiscarded (f : Frame) (s : State) : Outcome State Fault Refusal :=
  .next (if receives s ∧ judgeFrame f = none then awaitIdle s else s)

/-- STATION_CLASH (R11). -/
def execStationClash (f : Frame) (s : State) : Outcome State Fault Refusal :=
  .next (if isClash f s then clash (awaitIdle s) else s)

/-- TRANSMISSION_START (R12, R15, R17). -/
def execTransmissionStart (rival : Option (BitVec 6)) (s : State) : Outcome State Fault Refusal :=
  .next (if mayContend s.link then contend rival s else s)

/-- TRANSMISSION_SUCCESS (R13, R16 to R18, R20). -/
def execTransmissionSuccess (s : State) : Outcome State Fault Refusal :=
  match s.link.tx with
  | none => .next s
  | some c => .next (succeed c s)

/-- TRANSMISSION_FAILURE (R13, R16, R17, R19). -/
def execTransmissionFailure (s : State) : Outcome State Fault Refusal :=
  match s.link.tx with
  | none => .next s
  | some c => .next (fail c s)

/-- HOLD_OFF_EXPIRY (R18). -/
def execHoldOffExpiry (s : State) : Outcome State Fault Refusal := .next { s with link := { s.link with holdOff := none } }

/-- CEASE_REMAINDER_EXPIRY (R17): the boundary's part in a state in which the remainder is about to reach 0. -/
def execCeaseRemainderExpiry (s : State) : Outcome State Fault Refusal :=
  .next (if s.link.ceaseLeft = 1 then stepRemainder s else s)

/-- PROBE_COUNT_EXPIRY (R20): the boundary's part in a state in which the probe count is about to reach 100. -/
def execProbeCountExpiry (s : State) : Outcome State Fault Refusal :=
  .next (if s.link.state = .isolated ∧ Config.probeInterval ≤ s.link.probeCount + 1 then placeProbe s else s)

/-- LINE_IDLE (R4): the next dominant bit is a start bit. The line is not idle while the node itself is sending. -/
def execLineIdle (s : State) : Outcome State Fault Refusal :=
  .next { s with link := { s.link with line := if s.link.tx.isNone then .idle else s.link.line } }

end Sys2Proof.Machine
end

