-- ==== Sys2Proof/Machine/RoundCommands.lean ====
section
/-! DEFINITION. The meanings of the commands of the Round Timer, the Peer Table, the Share Unit, the Wear Unit, the Readiness Controller and the Step Engine. A row that names one part of a round boundary does that part in a state in which it is due, and nothing otherwise. -/

namespace Sys2Proof.Machine

open Host (Outcome)

/-- BOUNDARY_TIMER_EXPIRY (R25, R26, R28); an expiry that a DEMAND arrival taken first has struck out does not come (R27). -/
def execBoundaryTimerExpiry (inputs : BitVec 4) (s : State) : Outcome State Fault Refusal :=
  .next
    (if s.round.boundaryStruck then withInputs inputs { s with round := { s.round with boundaryStruck := false } }
    else roundBoundary .expiry (withInputs inputs s))

/-- STATE_EMISSION (R29); an expiry that a boundary taken first has struck out does not come. -/
def execStateEmission (s : State) : Outcome State Fault Refusal :=
  .next
    (if s.round.emissionStruck then { s with round := { s.round with emissionStruck := false } }
    else if s.round.emission.isSome then
      let t := placeState s
      { t with round := { t.round with emission := none } }
    else s)

/-- RECORD_FORGET (R35, R36). -/
def execRecordForget (station : Station) (s : State) : Outcome State Fault Refusal :=
  .next (if isForgotten s station then judgeStopHold (judgeSurplus singleRoles (putPeer station {} s)) else s)

/-- CEASE_WINDOW_CLOSE (R52). -/
def execCeaseWindowClose (kind : CeaseKind) (s : State) : Outcome State Fault Refusal :=
  .next (if (windowOf s kind).left = 1 then changeWindows (putWindow kind .closed) s else s)

/-- SHARE_COMPLETION (R64, R65). -/
def execShareCompletion (inputs : BitVec 4) (s : State) : Outcome State Fault Refusal :=
  match s.share.pass with
  | none => .next s
  | some p => .next (complete p.snap (withInputs inputs s))

/-- WARN_REFRESH (R194). -/
def execWarnRefresh (s : State) : Outcome State Fault Refusal :=
  .next (if s.locked ∧ Config.refreshRounds ≤ s.wear.refresh + 1 then placeWarn s else s)

/-- The budget of the running list is about to be reached (R87). -/
def budgetDue (s : State) : Bool :=
  match s.engine.list with
  | none => false
  | some name => decide (s.engine.budget + 1 = budgetOf s.items name)

/-- LIST_BUDGET_EXPIRY (R87, R94). -/
def execListBudgetExpiry (s : State) : Outcome State Fault Refusal :=
  .next
    (if budgetDue s then endList (some .budget) { s with engine := { s.engine with budget := s.engine.budget + 1 } } else s)

/-- A waiting HOLD whose timeout is about to run out, its condition still false (R90). -/
def holdDue (s : State) : Bool :=
  match s.engine.list, s.engine.wait, s.engine.memory[s.engine.pointer] with
  | some _, .hold left, .hold c _ ignore => decide (left ≤ 1) && !holdPasses s c ignore
  | _, _, _ => false

/-- HOLD_TIMEOUT (R90, R94). -/
def execHoldTimeout (inputs : BitVec 4) (s : State) : Outcome State Fault Refusal :=
  let t := withInputs inputs s
  .next (if holdDue t then endList (some .timeout) t else t)

/-- A waiting PAUSE about to run out (R92). -/
def pauseDue (s : State) : Bool :=
  match s.engine.list, s.engine.wait with
  | some _, .pause left => decide (left ≤ 1)
  | _, _ => false

/-- PAUSE_END (R92): the turn goes on from the step after it. -/
def execPauseEnd (inputs : BitVec 4) (s : State) : Outcome State Fault Refusal :=
  let t := withInputs inputs s
  .next (if pauseDue t then releaseStep Config.turnSteps t else t)

/-- PULSE_END (R89). -/
def execPulseEnd (line : Fin 4) (s : State) : Outcome State Fault Refusal :=
  .next (if s.engine.pulses[line] = 1 then driveLine line false (setPulse line 0 s) else s)

/-- NO_ENTRY_LIST_READY (R71, R73). -/
def execNoEntryListReady (s : State) : Outcome State Fault Refusal :=
  .next (if s.ready.state = .starting then passWithoutList s else s)

/-- NO_EXIT_LIST_STOP (R73). -/
def execNoExitListStop (s : State) : Outcome State Fault Refusal :=
  .next (if s.ready.state = .stopping then passWithoutList s else s)

/-- GENSET_START (R78). -/
def execGensetStart (inputs : BitVec 4) (s : State) : Outcome State Fault Refusal :=
  let t := withInputs inputs s
  .next (if mayStart t then beginStarting t else t)

/-- GENSET_STOP (R79). -/
def execGensetStop (inputs : BitVec 4) (s : State) : Outcome State Fault Refusal :=
  let t := withInputs inputs s
  .next (if mustStop t then beginStopping .standby t else t)

end Sys2Proof.Machine
end

