-- ==== Sys2Proof/Machine/MeasureCommands.lean ====
section
/-! DEFINITION. The meanings of the commands of the Sampling Wheel, the Pulse Capture Unit and the Command Output Unit. -/

namespace Sys2Proof.Machine

open Host (Outcome)

/-- The wheel moved on from a position (R97). -/
def nextPosition (p : Fin 8) (s : State) : State := { s with wheel := { s.wheel with position := p + 1, elapsed := 0 } }

/-- CONVERSION (R97 to R99): at an IDLE position nothing is converted. The position that ends is the operand's, whatever the wheel's own count of it says (DESIGN CHOICE, notes/assumptions/42.md). -/
def execConversion (position : Fin 8) (level : Int) (s : State) : Outcome State Fault Refusal :=
  match s.wheel.map[position] with
  | none => .next (nextPosition position s)
  | some c => .next (nextPosition position (convert c level s))

/-- MEASUREMENT_EVENT (R100). -/
def execMeasurementEvent (s : State) : Outcome State Fault Refusal := .next (measure s)

/-- RISING_EDGE (R104, R105): in DEMODULATE mode C1's edges are those of DEMODULATION_EDGE. -/
def execRisingEdge (channel : CapName) (s : State) : Outcome State Fault Refusal :=
  .next (if (s.items.capture channel).mode = .demodulate then s else takeEdge channel s)

/-- DEMODULATION_EDGE (R110, R111): nothing outside DEMODULATE mode (R112). -/
def execDemodulationEdge (rising : Bool) (s : State) : Outcome State Fault Refusal :=
  .next
    (if s.items.capture1.mode = .demodulate then
      { s with
        capture :=
          { s.capture with
            demod :=
              if rising then risingDemod s.capture.micros (absenceWait s) s.capture.demod
              else fallingEdge s.capture.micros (absenceWait s) s.capture.demod } }
    else s)

/-- ZERO_SPEED_EXPIRY (R108): nothing while the timer is stopped; an expiry that a capture taken first has struck out does not come. -/
def execZeroSpeedExpiry (channel : CapName) (s : State) : Outcome State Fault Refusal :=
  .next
    (if (s.capture.get channel).struck then
      { s with capture := s.capture.put channel { s.capture.get channel with struck := false } }
    else if (s.capture.get channel).timer.isSome then
      { s with capture := s.capture.put channel (zeroSpeed (s.capture.get channel)) }
    else s)

/-- ABSENCE_TIMER_EXPIRY (R111): nothing while the timer is stopped; an expiry that an edge taken first has struck out does not come. -/
def execAbsenceTimerExpiry (s : State) : Outcome State Fault Refusal :=
  .next
    (if s.capture.demod.struck then { s with capture := { s.capture with demod := { s.capture.demod with struck := false } } }
    else if s.capture.demod.timer.isSome then { s with capture := { s.capture with demod := signalAbsent s.capture.demod } } else s)

/-- PERIOD_END (R116, R117, R119, R121). -/
def execPeriodEnd (output : OutName) (s : State) : Outcome State Fault Refusal := .next (doPeriodEnd output s)

/-- A shutdown line's level as it now stands. -/
def withLine (line : Fin 4) (level : Bool) (s : State) : State :=
  { s with
    pins :=
      { s.pins with
        lines := if level then s.pins.lines ||| BitVec.ofNat 4 (2 ^ line.val) else s.pins.lines &&& ~~~(BitVec.ofNat 4 (2 ^ line.val)) } }

/-- SHUTDOWN_LINE_CHANGE (R118, R119, R128): a change to the active level makes the source active. -/
def execShutdownLineChange (line : Fin 4) (level : Bool) (s : State) : Outcome State Fault Refusal :=
  let t := withLine line level s
  .next (if lineActive t line && !lineActive s line then lineBecomesActive line t else t)

end Sys2Proof.Machine
end

