-- ==== Sys2Proof/Machine/PortCommands.lean ====
section
/-! DEFINITION. The meanings of the commands of the local port: each is the part of its exchange that the command stands for (R196, R197). -/

namespace Sys2Proof.Machine

open Host (Outcome)

/-- SHORT_EXCHANGE (R196). -/
def execShortExchange (s : State) : Outcome State Fault Refusal := .next (runShort s)

/-- UNKNOWN_COMMAND (R196): a code that names a command is none. -/
def execUnknownCommand (m : Moment) (code : Byte) (s : State) : Outcome State Fault Refusal :=
  .next (if 1 ≤ code.toNat ∧ code.toNat ≤ 25 then s else runRequest m (unknownRequest code) s)

/-- LOAD_ITEM (R199). -/
def execLoadItem (m : Moment) (item : BitVec 16) (index : Byte) (value : BitVec 32) (s : State) : Outcome State Fault Refusal :=
  .next (runRequest m (loadItemRequest item index value) s)

/-- LOAD_STEP (R199). -/
def execLoadStep (m : Moment) (index kind : Byte) (operands : BitVec 72) (s : State) : Outcome State Fault Refusal :=
  .next (runRequest m (loadStepRequest index kind operands) s)

/-- RESTORE_WEAR (R160, R190). -/
def execRestoreWear (m : Moment) (slot : Byte) (value : BitVec 32) (s : State) : Outcome State Fault Refusal :=
  .next (runRequest m (restoreRequest slot value) s)

/-- LOCK (R71, R200). -/
def execLock (m : Moment) (inputs : BitVec 4) (s : State) : Outcome State Fault Refusal :=
  .next (runRequest m lockRequest (withInputs inputs s))

/-- ENGAGE (R71). -/
def execEngage (m : Moment) (inputs : BitVec 4) (s : State) : Outcome State Fault Refusal :=
  .next (runRequest m engageRequest (withInputs inputs s))

/-- DISENGAGE (R72). -/
def execDisengage (m : Moment) (inputs : BitVec 4) (s : State) : Outcome State Fault Refusal :=
  .next (runRequest m disengageRequest (withInputs inputs s))

/-- CLEAR_FAULT (R75). -/
def execClearFault (m : Moment) (s : State) : Outcome State Fault Refusal :=
  .next (runRequest m clearFaultRequest s)

/-- SHUTDOWN (R131). -/
def execShutdown (m : Moment) (on : Byte) (s : State) : Outcome State Fault Refusal :=
  .next (runRequest m (shutdownRequest on) s)

/-- RELEASE_OUTPUT (R123). -/
def execReleaseOutput (m : Moment) (output : Byte) (s : State) : Outcome State Fault Refusal :=
  .next (runRequest m (releaseRequest output) s)

/-- SET_ZONE (R141). -/
def execSetZone (m : Moment) (on : Byte) (s : State) : Outcome State Fault Refusal :=
  .next (runRequest m (zoneRequest on) s)

/-- SET_CHARGE (R160). -/
def execSetCharge (m : Moment) (charge : BitVec 32) (s : State) : Outcome State Fault Refusal :=
  .next (runRequest m (chargeRequest charge) s)

/-- SERVICE_RESET (R189). -/
def execServiceReset (m : Moment) (slot : Byte) (s : State) : Outcome State Fault Refusal :=
  .next (runRequest m (serviceRequest slot) s)

/-- READ_PEER (R41). -/
def execReadPeer (m : Moment) (station : Byte) (s : State) : Outcome State Fault Refusal :=
  .next (runRequest m (peerRequest station) s)

/-- READ_SHARE (R67). -/
def execReadShare (m : Moment) (s : State) : Outcome State Fault Refusal :=
  .next (runRequest m shareRequest s)

/-- READ_WEAR (R180, R198). -/
def execReadWear (m : Moment) (slot : Byte) (s : State) : Outcome State Fault Refusal :=
  .next (runRequest m (wearRequest slot) s)

/-- READ_STATUS (R201). -/
def execReadStatus (m : Moment) (s : State) : Outcome State Fault Refusal :=
  .next (runRequest m statusRequest s)

/-- READ_SNAPSHOT (R127). -/
def execReadSnapshot (m : Moment) (s : State) : Outcome State Fault Refusal :=
  .next (runRequest m snapshotRequest s)

/-- NEXT_WARNING (R193, R202). -/
def execNextWarning (m : Moment) (s : State) : Outcome State Fault Refusal :=
  .next (runRequest m warningRequest s)

/-- READ_ATTENTION (R205). -/
def execReadAttention (m : Moment) (s : State) : Outcome State Fault Refusal :=
  .next (runRequest m attentionRequest s)

/-- SET_ENABLE (R206). -/
def execSetEnable (m : Moment) (mask : Byte) (s : State) : Outcome State Fault Refusal :=
  .next (runRequest m (setEnableRequest mask) s)

/-- CLEAR_ENABLE (R206). -/
def execClearEnable (m : Moment) (mask : Byte) (s : State) : Outcome State Fault Refusal :=
  .next (runRequest m (clearEnableRequest mask) s)

/-- SET_PENDING (R206). -/
def execSetPending (m : Moment) (mask : Byte) (s : State) : Outcome State Fault Refusal :=
  .next (runRequest m (setPendingRequest mask) s)

/-- CLEAR_PENDING (R206). -/
def execClearPending (m : Moment) (mask : Byte) (s : State) : Outcome State Fault Refusal :=
  .next (runRequest m (clearPendingRequest mask) s)

/-- MASTER (R206). -/
def execMaster (m : Moment) (on : Byte) (s : State) : Outcome State Fault Refusal :=
  .next (runRequest m (masterRequest on) s)

/-- RESTART (R207). -/
def execRestart (m : Moment) (inputs : BitVec 4) (s : State) : Outcome State Fault Refusal :=
  .next (runRequest m restartRequest (withInputs inputs s))

end Sys2Proof.Machine
end

