-- ==== Sys2Proof/Machine/Dispatch.lean ====
section
/-! DEFINITION. One arm per command, each one direct call of the command's meaning. -/

namespace Sys2Proof.Machine

open Host (Outcome)

/-- The effect of a command on everything but the queue. -/
def exec (i : Instr) (s : State) : Host.Outcome State Fault Refusal :=
  match i with
  | .powerOnReset straps lines inputs => Sys2Proof.Machine.execPowerOnReset straps lines inputs s
  | .resetPin straps lines inputs => Sys2Proof.Machine.execResetPin straps lines inputs s
  | .ceaseFrameReceived frame => Sys2Proof.Machine.execCeaseFrameReceived frame s
  | .demandFrameReceived frame inputs => Sys2Proof.Machine.execDemandFrameReceived frame inputs s
  | .stateFrameReceived frame => Sys2Proof.Machine.execStateFrameReceived frame s
  | .warnFrameReceived frame => Sys2Proof.Machine.execWarnFrameReceived frame s
  | .frameDiscarded frame => Sys2Proof.Machine.execFrameDiscarded frame s
  | .stationClash frame => Sys2Proof.Machine.execStationClash frame s
  | .transmissionStart rival => Sys2Proof.Machine.execTransmissionStart rival s
  | .transmissionSuccess => Sys2Proof.Machine.execTransmissionSuccess s
  | .transmissionFailure => Sys2Proof.Machine.execTransmissionFailure s
  | .holdOffExpiry => Sys2Proof.Machine.execHoldOffExpiry s
  | .ceaseRemainderExpiry => Sys2Proof.Machine.execCeaseRemainderExpiry s
  | .probeCountExpiry => Sys2Proof.Machine.execProbeCountExpiry s
  | .boundaryTimerExpiry inputs => Sys2Proof.Machine.execBoundaryTimerExpiry inputs s
  | .stateEmission => Sys2Proof.Machine.execStateEmission s
  | .recordForget station => Sys2Proof.Machine.execRecordForget station s
  | .ceaseWindowClose kind => Sys2Proof.Machine.execCeaseWindowClose kind s
  | .shareCompletion inputs => Sys2Proof.Machine.execShareCompletion inputs s
  | .warnRefresh => Sys2Proof.Machine.execWarnRefresh s
  | .listBudgetExpiry => Sys2Proof.Machine.execListBudgetExpiry s
  | .holdTimeout inputs => Sys2Proof.Machine.execHoldTimeout inputs s
  | .pauseEnd inputs => Sys2Proof.Machine.execPauseEnd inputs s
  | .pulseEnd line => Sys2Proof.Machine.execPulseEnd line s
  | .noEntryListReady => Sys2Proof.Machine.execNoEntryListReady s
  | .noExitListStop => Sys2Proof.Machine.execNoExitListStop s
  | .gensetStart inputs => Sys2Proof.Machine.execGensetStart inputs s
  | .gensetStop inputs => Sys2Proof.Machine.execGensetStop inputs s
  | .conversion position level => Sys2Proof.Machine.execConversion position level s
  | .measurementEvent => Sys2Proof.Machine.execMeasurementEvent s
  | .risingEdge channel => Sys2Proof.Machine.execRisingEdge channel s
  | .demodulationEdge rising => Sys2Proof.Machine.execDemodulationEdge rising s
  | .zeroSpeedExpiry channel => Sys2Proof.Machine.execZeroSpeedExpiry channel s
  | .absenceTimerExpiry => Sys2Proof.Machine.execAbsenceTimerExpiry s
  | .periodEnd output => Sys2Proof.Machine.execPeriodEnd output s
  | .shutdownLineChange line level => Sys2Proof.Machine.execShutdownLineChange line level s
  | .shortExchange => Sys2Proof.Machine.execShortExchange s
  | .unknownCommand m code => Sys2Proof.Machine.execUnknownCommand m code s
  | .loadItem m item index value => Sys2Proof.Machine.execLoadItem m item index value s
  | .loadStep m index kind operands => Sys2Proof.Machine.execLoadStep m index kind operands s
  | .restoreWear m slot value => Sys2Proof.Machine.execRestoreWear m slot value s
  | .lock m inputs => Sys2Proof.Machine.execLock m inputs s
  | .engage m inputs => Sys2Proof.Machine.execEngage m inputs s
  | .disengage m inputs => Sys2Proof.Machine.execDisengage m inputs s
  | .clearFault m => Sys2Proof.Machine.execClearFault m s
  | .shutdown m on => Sys2Proof.Machine.execShutdown m on s
  | .releaseOutput m output => Sys2Proof.Machine.execReleaseOutput m output s
  | .setZone m on => Sys2Proof.Machine.execSetZone m on s
  | .setCharge m charge => Sys2Proof.Machine.execSetCharge m charge s
  | .serviceReset m slot => Sys2Proof.Machine.execServiceReset m slot s
  | .readPeer m station => Sys2Proof.Machine.execReadPeer m station s
  | .readShare m => Sys2Proof.Machine.execReadShare m s
  | .readWear m slot => Sys2Proof.Machine.execReadWear m slot s
  | .readStatus m => Sys2Proof.Machine.execReadStatus m s
  | .readSnapshot m => Sys2Proof.Machine.execReadSnapshot m s
  | .nextWarning m => Sys2Proof.Machine.execNextWarning m s
  | .readAttention m => Sys2Proof.Machine.execReadAttention m s
  | .setEnable m mask => Sys2Proof.Machine.execSetEnable m mask s
  | .clearEnable m mask => Sys2Proof.Machine.execClearEnable m mask s
  | .setPending m mask => Sys2Proof.Machine.execSetPending m mask s
  | .clearPending m mask => Sys2Proof.Machine.execClearPending m mask s
  | .master m on => Sys2Proof.Machine.execMaster m on s
  | .restart m inputs => Sys2Proof.Machine.execRestart m inputs s
  | .lineIdle => Sys2Proof.Machine.execLineIdle s

end Sys2Proof.Machine
end

