-- ==== Sys2Proof/Machine/Tick.lean ====
section
/-! DEFINITION. The tick: what happens in one microsecond in which no command waits (notes/assumptions/2.md). Every timer runs on by 1 µs, and each event that then falls due is put into the queue as a command. -/

namespace Sys2Proof.Machine

/-- A running timer lowered by 1 µs. -/
def lower (t : Option Nat) : Option Nat := t.map fun n => n - 1

/-- A running timer has reached its expiry. -/
def due (t : Option Nat) : Bool := decide (t = some 0)

/-- Every timer and running count after 1 µs; no expiry waits, so none is struck out (R18, R24, R29, R45, R97, R103, R108, R111, R115). -/
def passMicrosecond (s : State) : State :=
  { s with
    link := { s.link with holdOff := lower s.link.holdOff }
    round :=
      { s.round with
        phase := s.round.phase + 1, boundary := s.round.boundary - 1, emission := lower s.round.emission
        boundaryStruck := false, emissionStruck := false }
    share := { s.share with pass := s.share.pass.map fun p => { p with age := p.age + 1 } }
    wheel := { s.wheel with elapsed := s.wheel.elapsed + 1 }
    capture :=
      { s.capture with
        micros := s.capture.micros + 1, c0 := { s.capture.c0 with timer := lower s.capture.c0.timer, struck := false }
        c1 := { s.capture.c1 with timer := lower s.capture.c1.timer, struck := false }
        demod := { s.capture.demod with timer := lower s.capture.demod.timer, struck := false } }
    outputs :=
      { s.outputs with
        a := { s.outputs.a with elapsed := s.outputs.a.elapsed + 1 }, b := { s.outputs.b with elapsed := s.outputs.b.elapsed + 1 } } }

/-- A command if a condition holds. -/
def dueIf (c : Bool) (i : Instr) : List Instr := if c then [i] else []

/-- The level at which the input of the wheel's position was last sampled; ground at an IDLE position, where none is taken. -/
def levelNow (s : State) : Int :=
  match s.wheel.map[s.wheel.position] with
  | none => 0
  | some c => s.pins.analog[c]

/-- A share pass has run for as long as one may (R45). -/
def passDue (s : State) : Bool :=
  match s.share.pass with
  | none => false
  | some p => decide (Config.passBound ≤ p.age)

/-- The commands of the events that are due, in the model's own order. -/
def dueEvents (s : State) : List Instr :=
  dueIf (due s.link.holdOff) .holdOffExpiry ++ dueIf (due s.capture.c0.timer) (.zeroSpeedExpiry .c0) ++
    dueIf (due s.capture.c1.timer) (.zeroSpeedExpiry .c1) ++ dueIf (due s.capture.demod.timer) .absenceTimerExpiry ++
    dueIf (decide (125 ≤ s.wheel.elapsed)) (.conversion s.wheel.position (levelNow s)) ++
    dueIf (decide (125 ≤ s.wheel.elapsed) && decide (s.wheel.position = 7)) .measurementEvent ++
    dueIf (passDue s) (.shareCompletion s.pins.inputs) ++ dueIf (due s.round.emission) .stateEmission ++
    dueIf (decide (s.round.boundary = 0)) (.boundaryTimerExpiry s.pins.inputs) ++
    dueIf (decide (s.outputs.a.period ≤ s.outputs.a.elapsed)) (.periodEnd .a) ++
    dueIf (decide (s.outputs.b.period ≤ s.outputs.b.elapsed)) (.periodEnd .b)

/-- One microsecond with no command waiting. -/
def tick (s : State) : State :=
  let t := passMicrosecond s
  { t with pending := dueEvents t }

end Sys2Proof.Machine
end

