-- ==== Sys2Proof/WellFormed.lean ====
section
/-! DEFINITION. Which commands are well formed: a frame row carries a frame that the receiver judges as the row says, and an unknown command's code names none (R8, R9, R196, R198). -/

namespace Sys2Proof

open Machine (Content judgeFrame)

/-- The kind of an accepted frame's content. -/
def contentKind : Content → Machine.FrameKind
  | .cease _ => .cease
  | .demand _ => .demand
  | .state _ => .state
  | .warn _ => .warn

/-- A frame is accepted as one of the given kind. -/
def acceptedAs (k : Machine.FrameKind) (f : Frame) : Bool :=
  match judgeFrame f with
  | none => false
  | some c => decide (contentKind c = k)

/-- A command whose operands agree with what its row names. -/
def wellFormed (i : Instr) : Bool :=
  match i with
  | .powerOnReset _ _ _ => true
  | .resetPin _ _ _ => true
  | .ceaseFrameReceived f => acceptedAs .cease f
  | .demandFrameReceived f _ => acceptedAs .demand f
  | .stateFrameReceived f => acceptedAs .state f
  | .warnFrameReceived f => acceptedAs .warn f
  | .frameDiscarded f => (judgeFrame f).isNone
  | .stationClash f => (judgeFrame f).isSome
  | .transmissionStart _ => true
  | .transmissionSuccess => true
  | .transmissionFailure => true
  | .holdOffExpiry => true
  | .ceaseRemainderExpiry => true
  | .probeCountExpiry => true
  | .boundaryTimerExpiry _ => true
  | .stateEmission => true
  | .recordForget _ => true
  | .ceaseWindowClose _ => true
  | .shareCompletion _ => true
  | .warnRefresh => true
  | .listBudgetExpiry => true
  | .holdTimeout _ => true
  | .pauseEnd _ => true
  | .pulseEnd _ => true
  | .noEntryListReady => true
  | .noExitListStop => true
  | .gensetStart _ => true
  | .gensetStop _ => true
  | .conversion _ _ => true
  | .measurementEvent => true
  | .risingEdge _ => true
  | .demodulationEdge _ => true
  | .zeroSpeedExpiry _ => true
  | .absenceTimerExpiry => true
  | .periodEnd _ => true
  | .shutdownLineChange _ _ => true
  | .shortExchange => true
  | .unknownCommand _ code => decide (code.toNat = 0 ∨ 25 < code.toNat)
  | .loadItem _ _ _ _ => true
  | .loadStep _ _ _ _ => true
  | .restoreWear _ _ _ => true
  | .lock _ _ => true
  | .engage _ _ => true
  | .disengage _ _ => true
  | .clearFault _ => true
  | .shutdown _ _ => true
  | .releaseOutput _ _ => true
  | .setZone _ _ => true
  | .setCharge _ _ => true
  | .serviceReset _ _ => true
  | .readPeer _ _ => true
  | .readShare _ => true
  | .readWear _ _ => true
  | .readStatus _ => true
  | .readSnapshot _ => true
  | .nextWarning _ => true
  | .readAttention _ => true
  | .setEnable _ _ => true
  | .clearEnable _ _ => true
  | .setPending _ _ => true
  | .clearPending _ _ => true
  | .master _ _ => true
  | .restart _ _ => true
  | .lineIdle => true

end Sys2Proof
end

