-- ==== Sys2Proof/Safety.lean ====
section
/-! DEFINITION. What holds of every state the part can be in: the invariants that claims are stated in terms of, and the words the claims use for what a command may touch. -/

namespace Sys2Proof.Machine

/-! ## The posted limits (R81, R83) -/

/-- The posted limits are 0 whenever the node is not available or output A is in shutdown, never exceed the rated figures under the limit factor, and that factor never exceeds the wear factor, the limit override or 1000; nor does the wear factor exceed 1000 (R81, R83, R188). -/
structure LimitsHold (s : State) : Prop where
  closed : limitsClosed s = true → s.ready.limitA = 0 ∧ s.ready.limitB = 0
  ratedA : s.ready.limitA ≤ s.items.ratedA * s.ready.factor / 1000
  ratedB : s.ready.limitB ≤ s.items.ratedB * s.ready.factor / 1000
  wear : s.ready.factor ≤ s.wear.factor
  override : s.ready.factor ≤ s.ready.limitOverride
  top : s.ready.factor ≤ 1000
  wearTop : s.wear.factor ≤ 1000

/-! ## The command outputs and the discrete lines (R116, R117, R121, R124, R125, R130, R168) -/

/-- An output's pin shows its shutdown state while the output is in shutdown or under FAULTED holding (R120, R125). -/
def PinRests (s : State) (n : OutName) : Prop :=
  (s.outputs.get n).inShutdown = true ∨ faultHolding s = true → (s.outputs.get n).pin = .shutdown

/-- An output stands under its reset hold, and so in shutdown (R124). -/
def IsHeld (s : State) (n : OutName) : Prop :=
  (s.outputs.get n).resetHold = true ∧ (s.outputs.get n).inShutdown = true

/-- The command outputs: pins at rest in shutdown and under FAULTED holding; before LOCK both outputs held and no pass in flight; while the zero-power gate holds, a running output A at the rest duty; output A's map in order after LOCK and its duties inside it; every discrete line at its safe state while FAULTED; a TRACTION node's applied grant as its conditions stand (R168, R170). -/
structure OutputsHold (s : State) : Prop where
  pinA : PinRests s .a
  pinB : PinRests s .b
  unlocked : s.locked = false → IsHeld s .a ∧ IsHeld s .b ∧ s.share.pass = none
  gate : gateHolds s = true → s.outputs.a.pin = .running → s.outputs.a.active = restDuty s
  map : s.locked = true → s.items.dutyLo < s.items.dutyHi
  pendingMap :
    s.items.dutyLo ≤ s.items.dutyHi → s.items.dutyLo ≤ s.outputs.a.pending ∧ s.outputs.a.pending ≤ s.items.dutyHi
  activeMap :
    s.items.dutyLo ≤ s.items.dutyHi → s.outputs.a.pin = .running →
      s.items.dutyLo ≤ s.outputs.a.active ∧ s.outputs.a.active ≤ s.items.dutyHi
  safeLines : faultHolding s = true → ∀ l : Fin 4, s.outputs.lines[l] = { on := s.items.discretes[l].safeOn, driven := false }
  grant : s.role = .traction → s.roles.traction.applied = appliedGrant s

/-! ## The pack (R156, R157) -/

/-- The pack's charge lies within its capacity, its SOC is the SOC of that charge, and the carried remainder is a tenth's (R156, R157). -/
structure PackHolds (s : State) : Prop where
  charge : s.roles.pack.charge ≤ capacityMas s.items
  soc : s.roles.pack.soc = socOf s.roles.pack.charge (capacityMas s.items)
  low : -9 ≤ s.roles.pack.remainder
  high : s.roles.pack.remainder ≤ 9

/-! ## The link (R14, R17, R19, R21) -/

/-- The Link Controller: a CEASE remainder exactly with a CEASE frame; frames in the outbox only in the states that take them; no transmission and no streak in SILENT; the streak below 8 in ACTIVE and at most 255. The cease durations are a line's configured 1 to 65535 (R128). -/
structure LinkHolds (s : State) : Prop where
  remainder : s.link.outbox.cease = none ↔ s.link.ceaseLeft = 0
  placements :
    s.link.state ≠ .active → s.link.outbox.cease = none ∧ s.link.outbox.demand = none ∧ s.link.outbox.warn = none
  empty : s.link.state = .silent ∨ s.link.state = .muted → s.link.outbox.state = none
  silent : s.link.state = .silent → s.link.tx = none ∧ s.link.streak = 0
  active : s.link.state = .active → s.link.streak < 8
  streak : s.link.streak ≤ 255
  durations : ∀ l : Fin 4, 1 ≤ s.items.lines[l].duration ∧ s.items.lines[l].duration ≤ 65535

/-! ## The Readiness Controller and the Step Engine (R69, R70, R74, R86, R122, R140) -/

/-- Some fault cause is in the set (R69). -/
def Causes.any (c : Causes) : Bool := c.start || c.stop || c.shutdown || c.clash

/-- Readiness and the lists: an ENTRY list runs only in STARTING and an EXIT list only in STOPPING; FAULTED exactly while a cause is in the set; a latched output A of a locked node is one of the causes; the return stack holds at most 4 entries; STANDBY, and STOPPING toward it, only at a GENSET node; outside READY and DERATED the Demand Role's result and ramp base are 0 (R140). -/
structure ReadinessHolds (s : State) : Prop where
  entry : s.engine.list = some .entry → s.ready.state = .starting
  exit : s.engine.list = some .exit → s.ready.state = .stopping
  faulted : s.ready.state = .faulted ↔ s.ready.causes.any = true
  latched : s.locked = true → s.outputs.a.source = .latched → s.ready.causes.shutdown = true
  stack : s.engine.stack.length ≤ Config.stackDepth
  standby : s.ready.state = .standby ∨ s.ready.stopDest = .standby → s.role = .genset
  ramp : s.available = false → s.roles.demand.result = 0 ∧ s.roles.demand.rampBase = 0

/-! ## Bounded stores (R43, R105, R192) -/

/-- The stores with a bound: at most 4 timestamps in a capture FIFO, one queue entry for a warning source, a setter exactly in an open cease window, the held demand and its sources within −6000 to +6000 under the Demand Role's item ranges. -/
structure StoresHold (s : State) : Prop where
  fifo0 : s.capture.c0.fifo.length ≤ Config.fifoDepth
  fifo1 : s.capture.c1.fifo.length ≤ Config.fifoDepth
  queue : (s.wear.queue.map WarnEntry.source).Nodup
  traction : s.share.traction.setter = none ↔ s.share.traction.left = 0
  link : s.share.link.setter = none ↔ s.share.link.left = 0
  held : -6000 ≤ s.share.held ∧ s.share.held ≤ 6000
  waiting : ∀ d, s.share.pendingDemand = some d → -6000 ≤ d ∧ d ≤ 6000
  base : -6000 ≤ s.roles.demand.rampBase
  items : s.items.demand.driveMax ≤ 6000 ∧ s.items.demand.brakeMax ≤ 6000 ∧ s.items.demand.deadband ≤ 999

/-! ## Words for what a command touches -/

/-- Two warning records agree in all but carry and gate, which a closing segment touches (R183). -/
def sameRecord (x y : Option WearRecord) : Prop :=
  (x.map fun r => { r with carry := 0, gate := 0 }) = (y.map fun r => { r with carry := 0, gate := 0 })

/-- Every wear record is kept in all but carry and gate. -/
def KeepsRecords (s t : State) : Prop := ∀ i : Fin 12, sameRecord t.wear.slots[i] s.wear.slots[i]

/-- What a change of readiness may touch besides readiness and its counts (R77, R117, R140, R168, R172, R183): the demand role's result and ramp base, which a change of readiness zeroes unless it is READY or DERATED before and after, the traction role's grant and torque, the applied brake power, output A's active and pending duties, the open segment with the records' carries and gates. Everything else stands. -/
structure TouchesReadiness (s t : State) : Prop where
  rest :
    t =
      { s with
        ready := t.ready, roles := t.roles, outputs := t.outputs, wear := t.wear }
  roles :
    t.roles =
      { s.roles with
        demand := t.roles.demand
        traction := { s.roles.traction with applied := t.roles.traction.applied, torque := t.roles.traction.torque }
        friction := { s.roles.friction with applied := t.roles.friction.applied } }
  demand :
    t.roles.demand =
      if t.ready.state = s.ready.state ∨ (s.available = true ∧ t.available = true) then s.roles.demand
      else { s.roles.demand with result := 0, rampBase := 0 }
  outputs :
    t.outputs =
      { s.outputs with a := { s.outputs.a with active := t.outputs.a.active, pending := t.outputs.a.pending } }
  wear : t.wear = { s.wear with slots := t.wear.slots, segment := t.wear.segment }
  records : KeepsRecords s t

/-- What a list that a command starts leaves in any case, whatever its steps are (R86 to R95): the configuration, step memory, the link, the rounds, the peers, the share, the measured figures, the Local Port but for this exchange, and the wear records in all but carry and gate. -/
def KeepsBesidesLists (s t : State) : Prop :=
  t.items = s.items ∧ t.engine.memory = s.engine.memory ∧ t.link = s.link ∧ t.round = s.round ∧ t.peers = s.peers ∧
    t.share = s.share ∧ t.wheel = s.wheel ∧ t.capture = s.capture ∧ t.pending = s.pending ∧ KeepsRecords s t

/-- A list was started, from the engine of `s`, whose first step is a PAUSE of `k` rounds (R86, R87, R92): it waits at its start index, the stack empty and the budget count 0. -/
def BegunWithPause (name : ListName) (start : Fin 64) (k : Nat) (s t : State) : Prop :=
  t.engine =
    { s.engine with
      list := some name, pointer := start, stack := [], budget := 0, wait := .pause k
      outcome := some { list := name, verdict := .running, cause := none, failStep := none } }

/-- What a DEMAND acceptance leaves of its trigger (R43, R47, R49): dropped in UNCONFIGURED, a pass on its demand when IDLE, the pending slot when RUNNING. -/
def DemandTriggered (d : Int) (s t : State) : Prop :=
  (s.locked = false → t.share.pass = s.share.pass ∧ t.share.pendingDemand = s.share.pendingDemand) ∧
  (s.locked = true → s.share.pass = none →
    t.share.held = d ∧ (∃ p, t.share.pass = some p ∧ p.age = 0 ∧ p.snap.demand = d) ∧
      t.share.pendingDemand = s.share.pendingDemand) ∧
  (s.locked = true → s.share.pass.isSome = true → t.share.pass = s.share.pass ∧ t.share.pendingDemand = some d)

/-- Everything that only a change of the Peer Table and its marks touches (R31 to R36): the records and LINK attention. At a FRICTION node a change of stop hold may follow (R175), which this does not cover. -/
def TouchesPeers (s t : State) : Prop :=
  t = { s with peers := t.peers, attention := t.attention } ∧
    (t.attention = s.attention ∨ t.attention = { s.attention with pending := s.attention.pending ||| attnMask .link })

/-- A record but for its SURPLUS mark. -/
def bareRecord (r : PeerRecord) : PeerRecord := { r with surplus := false }

/-- The records of all stations but one are kept, SURPLUS marks aside. -/
def KeepsOtherPeers (i : Station) (s t : State) : Prop :=
  ∀ j : Station, j ≠ i → bareRecord t.peers[j] = bareRecord s.peers[j]

/-- A record's SURPLUS mark as R36 judges it: set exactly if the record is FRESH, of a single role, and not the station in use for it. -/
def JudgedForSurplus (s : State) (i : Station) : Prop :=
  s.peers[i].surplus = true ↔
    isFresh s (peer s i) = true ∧ isSingle (heldRole (peer s i)) = true ∧ stationInUse s (heldRole (peer s i)) ≠ some i

/-- A source's bit in the pending set (R202). -/
def isPending (s : State) (a : Attn) : Bool := s.attention.pending.getLsbD (attnBit a)

/-- A list failed with a cause at the step of `s`: outcome recorded, stack, wait, hold on output A and pulses ended, STEP attention raised, and an ENTRY list of a node that is no generator set has taken readiness to FAULTED with cause START; step memory, configuration, rounds, peers, share, measured figures and the Local Port stand (R73, R94). -/
structure ListFailed (name : ListName) (cause : FailCause) (s t : State) : Prop where
  outcome :
    t.engine.outcome = some { list := name, verdict := .failed, cause := some cause, failStep := some s.engine.pointer }
  idle : t.engine.list = none ∧ t.engine.stack = [] ∧ t.engine.wait = .none
  released : t.engine.holdsA = false
  pulses : ∀ l : Fin 4, t.engine.pulses[l] = 0
  attention : isPending t .step = true
  verdict :
    s.ready.state = .starting → name = .entry → s.role ≠ .genset →
      t.ready.state = .faulted ∧ t.ready.causes = { s.ready.causes with start := true }
  rest :
    t.engine.memory = s.engine.memory ∧ t.items = s.items ∧ t.round = s.round ∧ t.peers = s.peers ∧ t.share = s.share ∧
      t.wheel = s.wheel ∧ t.capture = s.capture ∧ t.port = s.port

/-- A source is both pending and enabled (R202). -/
def isRaised (s : State) (a : Attn) : Bool :=
  s.attention.pending.getLsbD (attnBit a) && s.attention.enable.getLsbD (attnBit a)

/-- The places of groups A, B and C under a group order code, 0 the highest (R204). -/
def groupPlaces (order : Nat) : Nat × Nat × Nat :=
  match order with
  | 0 => (0, 1, 2) | 1 => (0, 2, 1) | 2 => (1, 0, 2) | 3 => (2, 0, 1) | 4 => (1, 2, 0) | _ => (2, 1, 0)

/-- The rank of a source under the two order items, 0 the highest: the place of its group, then its place within it, which the group's flag turns round (R204). -/
def attnRank (k : Items) (a : Attn) : Nat :=
  match a with
  | .shutdown => 2 * (groupPlaces k.groupOrder).1 + k.groupA.toNat
  | .share => 2 * (groupPlaces k.groupOrder).1 + (!k.groupA).toNat
  | .wear => 2 * (groupPlaces k.groupOrder).2.1 + k.groupB.toNat
  | .step => 2 * (groupPlaces k.groupOrder).2.1 + (!k.groupB).toNat
  | .link => 2 * (groupPlaces k.groupOrder).2.2 + k.groupC.toNat
  | .capture => 2 * (groupPlaces k.groupOrder).2.2 + (!k.groupC).toNat

/-- The command of the local port that a constructor stands for, with the part of its exchange; none for a code that names no command and for every row that is not of the port (R196, R198). -/
def requestOf : Instr → Option (Moment × Request)
  | .loadItem m item index value => some (m, loadItemRequest item index value)
  | .loadStep m index kind operands => some (m, loadStepRequest index kind operands)
  | .restoreWear m slot value => some (m, restoreRequest slot value)
  | .lock m _ => some (m, lockRequest)
  | .engage m _ => some (m, engageRequest)
  | .disengage m _ => some (m, disengageRequest)
  | .clearFault m => some (m, clearFaultRequest)
  | .shutdown m on => some (m, shutdownRequest on)
  | .releaseOutput m n => some (m, releaseRequest n)
  | .setZone m on => some (m, zoneRequest on)
  | .setCharge m charge => some (m, chargeRequest charge)
  | .serviceReset m slot => some (m, serviceRequest slot)
  | .readPeer m station => some (m, peerRequest station)
  | .readShare m => some (m, shareRequest)
  | .readWear m slot => some (m, wearRequest slot)
  | .readStatus m => some (m, statusRequest)
  | .readSnapshot m => some (m, snapshotRequest)
  | .nextWarning m => some (m, warningRequest)
  | .readAttention m => some (m, attentionRequest)
  | .setEnable m mask => some (m, setEnableRequest mask)
  | .clearEnable m mask => some (m, clearEnableRequest mask)
  | .setPending m mask => some (m, setPendingRequest mask)
  | .clearPending m mask => some (m, clearPendingRequest mask)
  | .master m on => some (m, masterRequest on)
  | .restart m _ => some (m, restartRequest)
  | _ => none

/-- The discrete inputs as a command finds them: its own operand where it carries one, the pins otherwise. -/
def inputsAt (s : State) : Instr → BitVec 4
  | .lock _ inputs => inputs
  | .engage _ inputs => inputs
  | .disengage _ inputs => inputs
  | .restart _ inputs => inputs
  | _ => s.pins.inputs

/-- The two commands that take the part back to its power-on values. -/
def isReset : Instr → Bool
  | .powerOnReset _ _ _ => true
  | .resetPin _ _ _ => true
  | _ => false

/-- The RISING value of a slot is lowered only by a reset, and by a loading of the slot's kind, a RESTORE WEAR and a SERVICE RESET that name the slot (R180, R186, R189, R190, R199). -/
def mayLowerWear (i : Fin 12) : Instr → Bool
  | .powerOnReset _ _ _ => true
  | .resetPin _ _ _ => true
  | .loadItem _ item slot _ => decide (item = 0x0700) && decide (slot.toNat = i.val)
  | .restoreWear _ slot _ => decide (slot.toNat = i.val)
  | .serviceReset _ slot => decide (slot.toNat = i.val)
  | _ => false

/-- The link states a command other than a reset may lead to from a link state (R21). -/
def mayFollow (before after : LinkState) : Prop :=
  match before, after with
  | .silent, .silent => True | .silent, .active => True | .silent, .muted => True
  | .active, .active => True | .active, .isolated => True | .active, .muted => True
  | .isolated, .isolated => True | .isolated, .active => True | .isolated, .muted => True
  | .muted, .muted => True | .muted, .active => True
  | _, _ => False

/-- The configuration items that are one unsigned number with a range and no further effect of their loading: item code, range and where the item stands (R16, R24, R53, R69, R80, R85, R115, R204). -/
def plainItem : Nat → Option (Nat × Nat × (Items → Nat))
  | 0x0001 => some (0, 15, fun k => k.holdOff)
  | 0x0002 => some (5, 40, fun k => k.period)
  | 0x0100 => some (0, 1000, fun k => k.sharing.x)
  | 0x0101 => some (0, 1000, fun k => k.sharing.rho)
  | 0x0102 => some (0, 1000, fun k => k.sharing.socLow)
  | 0x0103 => some (0, 1000, fun k => k.sharing.socTarget)
  | 0x0104 => some (0, 1000, fun k => k.sharing.socHigh)
  | 0x0105 => some (0, 1000, fun k => k.sharing.socCrit)
  | 0x0106 => some (0, 50, fun k => k.sharing.kSoc)
  | 0x0107 => some (0, 6000, fun k => k.sharing.pEv)
  | 0x0108 => some (1, 8, fun k => k.sharing.staleLimit)
  | 0x0109 => some (1, 1000, fun k => k.sharing.decayStep)
  | 0x010A => some (0, 65535, fun k => k.sharing.brakeHold)
  | 0x0200 => some (0, 3, fun k => k.startRetries)
  | 0x0201 => some (0, 65535, fun k => k.minOn)
  | 0x0202 => some (0, 65535, fun k => k.minOff)
  | 0x0203 => some (0, 65535, fun k => k.retryGap)
  | 0x0207 => some (0, 8, fun k => k.curveCount)
  | 0x0302 => some (1, 65535, fun k => k.entryBudget)
  | 0x0303 => some (1, 65535, fun k => k.exitBudget)
  | 0x0800 => some (0, 5, fun k => k.groupOrder)
  | _ => none

end Sys2Proof.Machine
end

