-- ==== Sys2Proof/Certificates/Slice0/Obligations.lean ====
section
/-! DEFINITION. The statements about the WZ-318 that are to be proved. -/

open Sys2Proof Sys2Proof.Machine

/-! ## The step and the resets -/

/-- The command at the front of the queue is taken, and run on the state with the queue's rest. -/
def Obligations.StepRunsTheFrontCommand : Prop :=
  ∀ (c : Instr) (rest : List Instr) (s : State),
    s.pending = c :: rest → step s = exec c (s.withPending rest)

/-- The model's choice (notes/assumptions/2.md): with no command waiting, 1 µs passes. Every running timer and count moves by 1 µs, the events then due, and only those, are queued as commands, no expiry stays struck out (notes/assumptions/37.md), and nothing else changes. A conversion is queued with the level that the pins last had, a share completion 200 µs after its pass began (notes/assumptions/32.md). -/
def Obligations.EmptyQueueLetsAMicrosecondPass : Prop :=
  ∀ s : State, s.pending = [] →
    ∃ t : State,
      step s = .next t ∧ t.capture.micros = s.capture.micros + 1 ∧ t.round.phase = s.round.phase + 1 ∧
      t.round.count = s.round.count ∧ t.round.boundary = s.round.boundary - 1 ∧
      t.link.holdOff = s.link.holdOff.map (fun n => n - 1) ∧ t.round.emission = s.round.emission.map (fun n => n - 1) ∧
      (∀ n, (t.capture.get n).timer = (s.capture.get n).timer.map (fun k => k - 1)) ∧
      t.capture.demod.timer = s.capture.demod.timer.map (fun k => k - 1) ∧
      (∀ b, .boundaryTimerExpiry b ∈ t.pending ↔ b = s.pins.inputs ∧ s.round.boundary ≤ 1) ∧
      (.holdOffExpiry ∈ t.pending ↔ ∃ n, s.link.holdOff = some n ∧ n ≤ 1) ∧
      (.measurementEvent ∈ t.pending ↔ 124 ≤ s.wheel.elapsed ∧ s.wheel.position = 7) ∧
      (∀ n, .periodEnd n ∈ t.pending ↔ (s.outputs.get n).period ≤ (s.outputs.get n).elapsed + 1) ∧
      (∀ n, .zeroSpeedExpiry n ∈ t.pending ↔ ∃ k, (s.capture.get n).timer = some k ∧ k ≤ 1) ∧
      (.absenceTimerExpiry ∈ t.pending ↔ ∃ k, s.capture.demod.timer = some k ∧ k ≤ 1) ∧
      (.stateEmission ∈ t.pending ↔ ∃ n, s.round.emission = some n ∧ n ≤ 1) ∧
      (∀ p v, .conversion p v ∈ t.pending ↔
        124 ≤ s.wheel.elapsed ∧ p = s.wheel.position ∧
          v = (match s.wheel.map[s.wheel.position] with | none => 0 | some c => s.pins.analog[c])) ∧
      (∀ b, .shareCompletion b ∈ t.pending ↔ b = s.pins.inputs ∧ ∃ p, s.share.pass = some p ∧ 199 ≤ p.age) ∧
      (∀ c ∈ t.pending,
        (∃ b, c = .boundaryTimerExpiry b ∨ c = .shareCompletion b) ∨ (∃ n, c = .zeroSpeedExpiry n) ∨ (∃ n, c = .periodEnd n) ∨
          (∃ p v, c = .conversion p v) ∨ c = .holdOffExpiry ∨ c = .measurementEvent ∨ c = .absenceTimerExpiry ∨ c = .stateEmission) ∧
      t =
        { s with
          link := { s.link with holdOff := t.link.holdOff }
          round :=
            { s.round with
              phase := t.round.phase, boundary := t.round.boundary, emission := t.round.emission, boundaryStruck := false
              emissionStruck := false }
          share := { s.share with pass := s.share.pass.map fun p => { p with age := p.age + 1 } }
          wheel := { s.wheel with elapsed := s.wheel.elapsed + 1 }
          capture :=
            { s.capture with
              micros := t.capture.micros, c0 := { s.capture.c0 with timer := t.capture.c0.timer, struck := false }
              c1 := { s.capture.c1 with timer := t.capture.c1.timer, struck := false }
              demod := { s.capture.demod with timer := t.capture.demod.timer, struck := false } }
          outputs :=
            { s.outputs with
              a := { s.outputs.a with elapsed := s.outputs.a.elapsed + 1 }
              b := { s.outputs.b with elapsed := s.outputs.b.elapsed + 1 } }
          pending := t.pending }

/-- Power-on reset and the reset pin leave the same state, block by block at the power-on values of R22, R24, R43, R69, R96, R97, R102, R103, R112, R132, R134, R147, R155, R165, R171, R195 and R207. Output A's duties are those of its rest duty at the default map (R117, R132). A select period in progress becomes void (R196; how the model notes one, notes/assumptions/6.md); the levels last sampled at the analogue inputs stay, the reply and the answer last clocked out are 0 and empty, and the arrival round of the own WARN group and the curve input figure handed on last are 0 (notes/assumptions/1.md, 12.md and 21.md). Both output periods start, at their default of 1000 µs (R115, R132). The marks of struck expiries, all clear, are the model's (notes/assumptions/37.md). -/
def Obligations.ResetsLeaveThePowerOnValues : Prop :=
  ∀ (straps : Straps) (lines inputs : BitVec 4) (s : State),
    ∃ t : State,
      exec (.powerOnReset straps lines inputs) s = .next t ∧ exec (.resetPin straps lines inputs) s = .next t ∧
      t.pins = { straps, lines, inputs, analog := s.pins.analog } ∧ t.items = {} ∧
      t.link =
        { state := .silent, outbox := { cease := none, demand := none, state := none, warn := none }, ceaseLeft := 0, streak := 0,
          holdOff := none, probeCount := 0, clashHeld := false, tx := none, line := .waiting } ∧
      t.round =
        { count := 0, phase := 0, period := 10, boundary := 10000, emission := none, boundaryStruck := false, emissionStruck := false } ∧
      (∀ i : Station, t.peers[i] = {}) ∧
      t.share =
        { held := 0, staleCount := 0, pass := none, pendingDemand := none, traction := { left := 0, setter := none },
          link := { left := 0, setter := none }, planCounter := 0, plan := none } ∧
      t.ready.state = .unconfigured ∧ t.ready.causes.any = false ∧ t.ready.limitA = 0 ∧ t.ready.limitB = 0 ∧
      t.ready.limitOverride = 1000 ∧ t.ready.factor = 1000 ∧ t.ready.stopDest = .offline ∧ t.ready.startRetries = 0 ∧
      t.ready.onCount = 0 ∧ t.ready.offCount = 0 ∧ t.ready.gapCount = 0 ∧
      (∀ i : Fin 64, t.engine.memory[i] = .end_ false) ∧ t.engine.list = none ∧ t.engine.outcome = none ∧
      t.engine.pointer = 0 ∧ t.engine.stack = [] ∧ t.engine.budget = 0 ∧ t.engine.wait = .none ∧
      (∀ l : Fin 4, t.engine.pulses[l] = 0) ∧ t.engine.holdsA = false ∧
      t.wheel.position = 0 ∧ t.wheel.elapsed = 0 ∧ t.wheel.map = ({} : Items).map ∧
      (∀ c : Fin 4, t.wheel.channels[c] = { latest := 0, filtered := 0, seed := true }) ∧
      (∀ m : Fin 2, t.wheel.monitors[m] = { tripped := false, run := 0 }) ∧
      t.capture.micros = 0 ∧
      (∀ n : CapName, t.capture.get n =
        { edges := 0, fifo := [], overflow := false, reference := none, speed := 0, timer := none, struck := false }) ∧
      t.capture.demod = { rising := none, high := none, duty := 0, absent := true, timer := none, struck := false } ∧
      (∀ n : OutName, (t.outputs.get n).source = .none ∧ IsHeld t n ∧ (t.outputs.get n).pin = .shutdown) ∧
      t.outputs.a.active = restDuty t ∧ t.outputs.a.pending = restDuty t ∧ t.outputs.b.active = 0 ∧ t.outputs.b.pending = 0 ∧
      (∀ n : OutName, (t.outputs.get n).period = 1000 ∧ (t.outputs.get n).elapsed = 0) ∧ t.ready.curveInput = 0 ∧
      t.port.reply = 0 ∧ t.port.answer = [] ∧ t.outputs.soft = false ∧ t.outputs.snapshot = none ∧ (∀ l : Fin 4, t.outputs.lines[l] = { on := false, driven := false }) ∧
      (∀ i : Fin 12, t.wear.slots[i] = none) ∧ t.wear.deficit = { alarm := false, stamp := 0 } ∧
      t.wear.isolation = { alarm := false, stamp := 0 } ∧ t.wear.rewritten = 0 ∧ t.wear.queue = [] ∧ t.wear.refresh = 0 ∧ t.wear.lowMark = false ∧ t.wear.segment = none ∧ t.wear.factor = 1000 ∧
      t.roles.demand =
        { result := 0, rampBase := 0, disagree := false, both := false, brake := false, door := false, stopHold := false
          quiet := false, sequence := 0, computed := false, aux := 0 } ∧
      t.roles.genset = { request := false, actual := 0, aux := 0 } ∧
      t.roles.pack = { charge := 0, remainder := 0, soc := 0, actual := 0 } ∧
      t.roles.traction = { applied := 0, torque := 0, awaiting := false, actual := 0, aux := 0 } ∧
      t.roles.friction.applied = 0 ∧ (∀ i : Station, t.roles.friction.contributions[i] = 0) ∧ t.roles.friction.ownPart = 0 ∧
      t.roles.friction.stopHold = false ∧ t.roles.friction.temp = 200 ∧ t.roles.friction.energyRem = 0 ∧
      t.roles.friction.heatRem = 0 ∧ t.roles.friction.coolRem = 0 ∧ t.roles.friction.lastCompletion = none ∧
      t.roles.friction.thickness = 0 ∧ t.roles.friction.thicknessAbsent = true ∧
      t.attention = { pending := 0, enable := 0x3F, master := false } ∧
      t.port.lastOutcome = none ∧ t.port.short = false ∧ t.port.withdrawn = false ∧
      (t.port.select = .waiting ↔ s.port.select = .waiting) ∧ (∀ e, t.port.select ≠ .answered e) ∧
      (s.port.select ≠ .waiting → t.port.select = .void) ∧ t.pending = s.pending

/-- The straps are read when reset is released, and no command changes them; role codes 1 to 5 are the five roles; a part strapped to no role refuses LOCK and stays UNCONFIGURED (R1). -/
def Obligations.StrapsAreReadAtResetOnly : Prop :=
  (∀ (straps : Straps) (lines inputs : BitVec 4) (s : State),
    (∃ t, exec (.powerOnReset straps lines inputs) s = .next t ∧ t.pins.straps = straps) ∧
    (∃ t, exec (.resetPin straps lines inputs) s = .next t ∧ t.pins.straps = straps)) ∧
  (∀ (c : Instr) (s t : State), isReset c = false → exec c s = .next t → t.pins.straps = s.pins.straps) ∧
  (∀ s t : State, s.pending = [] → step s = .next t → t.pins.straps = s.pins.straps) ∧
  (∀ s : State,
    (s.pins.straps.role = 1 → s.role = .demand) ∧ (s.pins.straps.role = 2 → s.role = .genset) ∧
    (s.pins.straps.role = 3 → s.role = .pack) ∧ (s.pins.straps.role = 4 → s.role = .traction) ∧
    (s.pins.straps.role = 5 → s.role = .friction) ∧
    (s.pins.straps.role = 0 ∨ s.pins.straps.role = 6 ∨ s.pins.straps.role = 7 → s.role = .none)) ∧
  (∀ (c : Instr) (s t : State), s.role = .none → s.locked = false → isReset c = false → exec c s = .next t →
    t.locked = false) ∧
  (∀ (inputs : BitVec 4) (s : State), s.role = .none → s.locked = false →
    ∃ t, exec (.lock .whole inputs) s = .next t ∧ t.port.lastOutcome = some .role)

/-- After LOCK no command but a reset changes a configuration item, a step of step memory or leaves the locked states (R70, R85, R199, R200); and the link moves only along the transitions of R21 under every command but a reset. -/
def Obligations.LockedStatesAndLinkMoves : Prop :=
  (∀ (c : Instr) (s t : State), s.locked = true → isReset c = false → exec c s = .next t →
      t.items = s.items ∧ t.engine.memory = s.engine.memory ∧ t.locked = true) ∧
  (∀ (c : Instr) (s t : State), isReset c = false → exec c s = .next t → mayFollow s.link.state t.link.state)

/-! ## Frames on the line (R5 to R10) -/

/-- A frame composed by a node is accepted by its peers with the figures it was composed from, for all four kinds, bears its kind and its sender, and takes 35 + 8k bit times. -/
def Obligations.ComposedFramesAreAcceptedAsSent : Prop :=
  (∀ (i : Station) (k : CeaseKind) (d : Nat) (l : Fin 4), 1 ≤ d → d ≤ 65535 →
    judgeFrame (composeFrame .cease i (ceasePayload k d l)) = some (.cease { kind := k, duration := d, line := l })) ∧
  (∀ (i : Station) (g : DemandGroup), -6000 ≤ g.demand → g.demand ≤ 6000 → g.speed ≤ 65535 →
    judgeFrame (composeFrame .demand i (demandPayload g)) =
      some (.demand { sequence := g.sequence, demand := g.demand, speed := g.speed, flags := g.flags })) ∧
  (∀ (i : Station) (g : StateGroup), Role.ofCode g.role ≠ .none → g.limitA ≤ 6000 → g.limitB ≤ 6000 →
    -6000 ≤ g.actual → g.actual ≤ 6000 →
    (Role.ofCode g.role = .demand → g.limitA = 0 ∧ g.actual = 0) →
    (Role.ofCode g.role ≠ .pack → Role.ofCode g.role ≠ .traction → g.limitB = 0) →
    (if Role.ofCode g.role = .friction then -400 ≤ g.aux ∧ g.aux ≤ 12000
     else if Role.ofCode g.role = .pack then 0 ≤ g.aux ∧ g.aux ≤ 1000
     else 0 ≤ g.aux ∧ g.aux ≤ 65535) →
    judgeFrame (composeFrame .state i (statePayload g)) =
      some
        (.state
          { role := g.role, readiness := g.readiness, limitA := g.limitA, limitB := g.limitB, actual := g.actual, aux := g.aux,
            signature := g.signature, worst := g.worst })) ∧
  (∀ (i : Station) (g : WarnGroup),
    judgeFrame (composeFrame .warn i (warnPayload g)) =
      some (.warn { slots := g.slots, deficit := g.deficit, isolation := g.isolation })) ∧
  (∀ (i : Station) (k : FrameKind) (payload : List Byte),
    senderOf (composeFrame k i payload).precedence = i ∧ kindOf (composeFrame k i payload).precedence = k ∧
    (lineBits (composeFrame k i payload)).length = 35 + 8 * payload.length)

/-! ## Reception (R10, R31 to R33, R51) -/

/-- An accepted CEASE frame sets or extends the window of its kind and leaves the other; at a TRACTION node the applied grant is then 0, and a zero-power gate that begins brings output A to the rest duty at once; a window whose remainder reaches 0 closes and has no setter, and the own grant of the plan held is applied once no condition withholds it (R51, R52, R117, R168). That a return of the link, of which R170 says that the grant follows the next plan, withholds it until then is DEDUCED (notes/assumptions/51.md). That the closing row stands for a boundary's part is the model's (notes/assumptions/4.md). -/
def Obligations.CeaseWindowsAreSetAndClose : Prop :=
  (∀ (f : Frame) (c : CeaseContent) (s : State),
      receives s = true → senderOf f.precedence ≠ s.self → judgeFrame f = some (.cease c) →
      ∃ t : State,
        exec (.ceaseFrameReceived f) s = .next t ∧
        windowOf t c.kind =
          (if (windowOf s c.kind).left < c.duration then
            { left := c.duration, setter := some (senderOf f.precedence, c.line) }
          else windowOf s c.kind) ∧
        (∀ k, k ≠ c.kind → windowOf t k = windowOf s k) ∧
        (s.role = .traction → t.roles.traction.applied = 0) ∧
        (gateHolds t = true → gateHolds s = false → t.outputs.a.pin = .running → t.outputs.a.active = restDuty s) ∧
        t.ready = s.ready ∧ t.share = { s.share with traction := t.share.traction, link := t.share.link } ∧
        TouchesReadiness { s with link := { s.link with line := .waiting }, share := t.share } t) ∧
  (∀ (k : CeaseKind) (s : State),
      ((windowOf s k).left = 1 →
        ∃ t : State,
          exec (.ceaseWindowClose k) s = .next t ∧ windowOf t k = { left := 0, setter := none } ∧
          (∀ j, j ≠ k → windowOf t j = windowOf s j) ∧
          (s.role = .traction → gateHolds t = false →
            t.roles.traction.applied =
              if s.roles.traction.awaiting then 0 else (match s.share.plan with | none => 0 | some p => p.ownGrant)) ∧
          t.ready = s.ready ∧ t.share = { s.share with traction := t.share.traction, link := t.share.link } ∧
          TouchesReadiness { s with share := t.share } t) ∧
      ((windowOf s k).left ≠ 1 → exec (.ceaseWindowClose k) s = .next s))

/-- A DEMAND that is a duplicate, that comes from a station not in use, or that reaches a DEMAND node is stored and stamped and causes no boundary and no pass; a new one from the station in use in the first half of the round triggers a pass and leaves the round as it stands, but that at round phase 0, where it falls together with the boundary just taken, the next expiry is 1.25 periods as in the other order (R26, R27, R33, R44, R47, R49; that phase 0 tells this case is DEDUCED, notes/assumptions/46.md). At a FRICTION node stop hold is judged anew, and a new hold writes the hold duty (R175). -/
def Obligations.DemandInTheFirstHalf : Prop :=
  (∀ (f : Frame) (c : DemandContent) (inputs : BitVec 4) (s : State),
      receives s = true → senderOf f.precedence ≠ s.self → judgeFrame f = some (.demand c) → s.role ≠ .friction →
      (let i := senderOf f.precedence
       let stored := { s with peers := alter s.peers i (storeDemand c s.round.count) }
       s.peers[i].lastSequence = some c.sequence ∨ s.role = .demand ∨ stationInUse stored .demand ≠ some i) →
      ∃ t : State,
        exec (.demandFrameReceived f inputs) s = .next t ∧
        t.peers[senderOf f.precedence] =
          { s.peers[senderOf f.precedence] with
            present := true
            demand :=
              some { sequence := c.sequence, demand := c.demand, speed := c.speed, flags := c.flags, arrival := s.round.count }
            lastSequence := some c.sequence } ∧
        (∀ j : Station, j ≠ senderOf f.precedence → t.peers[j] = s.peers[j]) ∧
        t.share.staleCount = (if demandFresh t then 0 else s.share.staleCount) ∧
        t =
          { s with
            pins := { s.pins with inputs }, link := { s.link with line := .waiting }, peers := t.peers,
            share := { s.share with staleCount := t.share.staleCount } }) ∧
  (∀ (f : Frame) (c : DemandContent) (inputs : BitVec 4) (s : State),
      receives s = true → senderOf f.precedence ≠ s.self → judgeFrame f = some (.demand c) → s.role ≠ .demand → s.role ≠ .friction →
      s.peers[senderOf f.precedence].lastSequence ≠ some c.sequence →
      stationInUse { s with peers := alter s.peers (senderOf f.precedence) (storeDemand c s.round.count) } .demand =
        some (senderOf f.precedence) →
      2 * s.round.phase < s.round.period * 1000 →
      ∃ t : State,
        exec (.demandFrameReceived f inputs) s = .next t ∧
        t.peers[senderOf f.precedence].demand =
          some { sequence := c.sequence, demand := c.demand, speed := c.speed, flags := c.flags, arrival := s.round.count } ∧
        t.peers[senderOf f.precedence].lastSequence = some c.sequence ∧
        DemandTriggered c.demand s t ∧ (s.locked = true → s.share.pass.isSome = true → t.share.held = s.share.held) ∧
        (s.locked = false → t.share.held = s.share.held) ∧
        t =
          { s with
            pins := { s.pins with inputs }, link := { s.link with line := .waiting }, peers := t.peers,
            round :=
              { s.round with boundary := if s.round.phase = 0 then s.round.period * 1250 else s.round.boundary }
            share :=
              { s.share with
                held := t.share.held, staleCount := t.share.staleCount, pass := t.share.pass, pendingDemand := t.share.pendingDemand } }) ∧
  (∀ (f : Frame) (c : DemandContent) (inputs : BitVec 4) (s : State),
    receives s = true → senderOf f.precedence ≠ s.self → judgeFrame f = some (.demand c) → s.role = .friction →
    2 * s.round.phase < s.round.period * 1000 →
    ∃ t : State,
      exec (.demandFrameReceived f inputs) s = .next t ∧
      t.peers[senderOf f.precedence].demand =
        some { sequence := c.sequence, demand := c.demand, speed := c.speed, flags := c.flags, arrival := s.round.count } ∧
      (t.roles.friction.stopHold = true ↔ ∃ g, freshDemandGroup t = some g ∧ g.flags.stopHold = true) ∧
      (t.roles.friction.stopHold = true → s.roles.friction.stopHold = false → s.available = true → s.engine.holdsA = false →
        t.outputs.a.pending = intoMap s s.items.friction.holdDuty) ∧
      t.items = s.items ∧ t.round = { s.round with boundary := t.round.boundary } ∧
      (s.round.phase ≠ 0 → t.round.boundary = s.round.boundary))

/-- A new DEMAND from the station in use that comes in the second half of the round causes a round boundary, is stamped with the count after it, and triggers a pass after the boundary's work; an expiry of the boundary timer that was due does not come (R26, R27, R28, R33, R44; the marks of such expiries are the model's, notes/assumptions/37.md). -/
def Obligations.LateDemandCausesABoundary : Prop :=
  ∀ (f : Frame) (c : DemandContent) (inputs : BitVec 4) (s : State),
    receives s = true → senderOf f.precedence ≠ s.self → judgeFrame f = some (.demand c) → s.role ≠ .demand →
    s.peers[senderOf f.precedence].lastSequence ≠ some c.sequence →
    stationInUse { s with peers := alter s.peers (senderOf f.precedence) (storeDemand c s.round.count) } .demand =
      some (senderOf f.precedence) →
    s.round.period * 1000 ≤ 2 * s.round.phase →
    ∃ t : State,
      exec (.demandFrameReceived f inputs) s = .next t ∧
      t.round =
        { count := s.round.count + 1, phase := 0, period := s.items.period, boundary := s.items.period * 1250,
          emission := if s.self.val = 0 then none else some (s.self.val * s.items.period * 50)
          boundaryStruck := s.round.boundaryStruck || decide (s.round.boundary = 0)
          emissionStruck := s.round.emissionStruck || decide (s.round.emission = some 0) } ∧
      t.peers[senderOf f.precedence].demand =
        some { sequence := c.sequence, demand := c.demand, speed := c.speed, flags := c.flags, arrival := s.round.count + 1 } ∧
      t.peers[senderOf f.precedence].lastSequence = some c.sequence ∧ DemandTriggered c.demand s t ∧
      t.share.traction.left = s.share.traction.left - 1 ∧ t.share.link.left = s.share.link.left - 1 ∧
      t.link.ceaseLeft = s.link.ceaseLeft - 1 ∧ t.link.line = .waiting ∧ t.pins = { s.pins with inputs } ∧
      t.items = s.items ∧ t.wheel = s.wheel ∧ t.capture = s.capture ∧ t.port = s.port ∧ t.pending = s.pending

/-- An accepted STATE frame is stored in the sender's record; a change of role drops its DEMAND group; DISCORD is judged by the signature in a locked state, and an entry to it raises LINK attention (R31, R38). The station in use for a role is the lowest-numbered FRESH record that holds it; for the roles the arrival gives and takes, a record is marked SURPLUS exactly if it is FRESH, of a single role and not in use, and an entry to SURPLUS raises LINK attention (R36). At a FRICTION node a TRACTION station's actual figure becomes its shortfall contribution (R173). -/
def Obligations.StateFrameIsStored : Prop :=
  (∀ (r : Role) (i : Station) (s : State),
    stationInUse s r = some i ↔
      (isFresh s (peer s i) = true ∧ heldRole (peer s i) = r) ∧
        ∀ j : Station, j < i → ¬(isFresh s (peer s j) = true ∧ heldRole (peer s j) = r)) ∧
  (∀ (f : Frame) (c : StateContent) (s : State),
    receives s = true → senderOf f.precedence ≠ s.self → judgeFrame f = some (.state c) → s.role ≠ .friction →
    ∃ t : State,
      exec (.stateFrameReceived f) s = .next t ∧
      t.peers[senderOf f.precedence].present = true ∧
      t.peers[senderOf f.precedence].state =
        some
          { role := c.role, readiness := c.readiness, limitA := c.limitA, limitB := c.limitB, actual := c.actual, aux := c.aux,
            signature := c.signature, worst := c.worst, arrival := s.round.count } ∧
      t.peers[senderOf f.precedence].warn = s.peers[senderOf f.precedence].warn ∧
      ((∃ g, s.peers[senderOf f.precedence].state = some g ∧ g.role ≠ c.role) →
        t.peers[senderOf f.precedence].demand = none ∧ t.peers[senderOf f.precedence].lastSequence = none) ∧
      ((∀ g, s.peers[senderOf f.precedence].state = some g → g.role = c.role) →
        t.peers[senderOf f.precedence].demand = s.peers[senderOf f.precedence].demand ∧
        t.peers[senderOf f.precedence].lastSequence = s.peers[senderOf f.precedence].lastSequence) ∧
      (t.peers[senderOf f.precedence].discord = true ↔ s.locked = true ∧ c.signature ≠ signatureOf s.items.sharing) ∧
      (t.peers[senderOf f.precedence].discord = true → s.peers[senderOf f.precedence].discord = false → isPending t .link = true) ∧
      (∀ i : Station,
        heldRole (peer t i) = Role.ofCode c.role ∨ heldRole (peer t i) = heldRole s.peers[senderOf f.precedence] →
          JudgedForSurplus t i) ∧
      (∀ i : Station, t.peers[i].surplus = true → s.peers[i].surplus = false → isPending t .link = true) ∧
      KeepsOtherPeers (senderOf f.precedence) s t ∧ TouchesPeers { s with link := { s.link with line := .waiting } } t) ∧
  (∀ (f : Frame) (c : StateContent) (s : State),
    receives s = true → senderOf f.precedence ≠ s.self → judgeFrame f = some (.state c) → s.role = .friction →
    Role.ofCode c.role = .traction →
    ∃ t : State,
      exec (.stateFrameReceived f) s = .next t ∧
      t.roles.friction.contributions[senderOf f.precedence] = contributionOf s.share.plan (senderOf f.precedence) c.actual ∧
      (∀ (p : Plan) (g : Int), s.share.plan = some p → p.body.mode = .braking →
        p.body.grants[senderOf f.precedence] = some g → p.body.brakes[senderOf f.precedence] = false →
        (t.roles.friction.contributions[senderOf f.precedence] : Int) = max 0 (-g + c.actual)) ∧
      (∀ j : Station, j ≠ senderOf f.precedence → t.roles.friction.contributions[j] = s.roles.friction.contributions[j]) ∧
      t.peers[senderOf f.precedence].present = true ∧ t.items = s.items ∧ t.round = s.round ∧ t.share = s.share)

/-- An accepted WARN frame makes the sender's record present and stores its states with the current round count; READ PEER returns them; the node's own Wear Unit and limits stand (R32, R41). Where in the answer they stand is the model's reading of its layout (notes/assumptions/7.md). -/
def Obligations.WarnFrameIsStoredAndReadBack : Prop :=
  ∀ (f : Frame) (c : WarnContent) (s : State),
    receives s = true → senderOf f.precedence ≠ s.self → judgeFrame f = some (.warn c) →
    ∃ t : State,
      exec (.warnFrameReceived f) s = .next t ∧
      t =
        { s with
          link := { s.link with line := .waiting }
          peers :=
            alter s.peers (senderOf f.precedence) fun r =>
              { r with
                present := true
                warn := some { slots := c.slots, deficit := c.deficit, isolation := c.isolation, arrival := s.round.count } } } ∧
      ∃ u : State,
        exec (.readPeer .whole (BitVec.ofNat 8 (senderOf f.precedence).val)) t = .next u ∧ u.port.reply.extractLsb' 0 4 = 0#4 ∧
        (∀ k : Fin 12, u.port.answer[34 + k.val]? = some ((warnCode c.slots[k]).zeroExtend 8)) ∧
        u.port.answer[46]? = some ((alarmCode c.deficit).zeroExtend 8) ∧
        u.port.answer[47]? = some ((alarmCode c.isolation).zeroExtend 8)

/-- The line's own events: a discarded frame makes the receiver wait for idle, idle ends the waiting, and an expired hold-off stops; nothing else changes (R4, R9, R18). -/
def Obligations.LineEventsTouchTheLineOnly : Prop :=
  (∀ (f : Frame) (s : State), judgeFrame f = none → s.link.line ≠ .waiting → s.link.tx = none →
    exec (.frameDiscarded f) s = .next { s with link := { s.link with line := .waiting } }) ∧
  (∀ s : State, s.link.tx = none → exec .lineIdle s = .next { s with link := { s.link with line := .idle } }) ∧
  (∀ s : State, exec .holdOffExpiry s = .next { s with link := { s.link with holdOff := none } })

/-- A station clash takes the link to MUTED with an empty outbox and raises LINK attention; a locked node goes to FAULTED with cause CLASH added, an unlocked one holds the report; in MUTED a clash changes nothing (R11, R74). -/
def Obligations.StationClashMutesTheLink : Prop :=
  ∀ (f : Frame) (x : Content) (s : State),
    receives s = true → senderOf f.precedence = s.self → judgeFrame f = some x →
    ∃ t : State,
      exec (.stationClash f) s = .next t ∧
      (s.link.state = .muted → t = { s with link := { s.link with line := .waiting } }) ∧
      (s.link.state ≠ .muted →
        t.link =
          { s.link with
            state := .muted, outbox := { cease := none, demand := none, state := none, warn := none }, ceaseLeft := 0,
            holdOff := none, line := .waiting, clashHeld := t.link.clashHeld } ∧
        isPending t .link = true ∧
        (s.locked = false → t.link.clashHeld = true ∧ t.ready = s.ready) ∧
        (s.locked = true →
          t.ready.state = .faulted ∧ t.ready.causes = { s.ready.causes with clash := true } ∧
          t.link.clashHeld = s.link.clashHeld ∧
          (s.ready.state ≠ .faulted →
            t.engine.list = none ∧ t.outputs.a.pin = .shutdown ∧ t.outputs.b.pin = .shutdown ∧
            ∀ l : Fin 4, t.outputs.lines[l] = { on := s.items.discretes[l].safeOn, driven := false }))) ∧
      t.items = s.items ∧ t.round = s.round ∧ t.peers = s.peers ∧ t.share = s.share ∧ t.wheel = s.wheel ∧
      t.capture = s.capture ∧ t.port = s.port ∧ t.pins = s.pins ∧ t.pending = s.pending

/-! ## Transmission (R12 to R20) -/

/-- A contention sends a copy of the eligible slot of lowest kind code, the CEASE copy with the remainder as its duration, or is lost to a lower precedence and leaves every slot as it stood (R12, R15, R17). -/
def Obligations.ContentionSendsTheLowestKind : Prop :=
  ∀ (rival : Option (BitVec 6)) (s : State) (k : FrameKind) (x : Slot),
    s.link.line = .idle → s.link.tx = none → s.link.state = .active ∨ s.link.state = .isolated →
    s.link.outbox.get k = some x → isEligible s.link k = true →
    (∀ j, isEligible s.link j = true → (kindCode k).toNat ≤ (kindCode j).toNat) →
    ∃ t : State,
      exec (.transmissionStart rival) s = .next t ∧
      t = { s with link := { s.link with line := .busy, tx := t.link.tx } } ∧
      ((∃ r, rival = some r ∧ r.toNat < (precedenceOf k s.self).toNat) → t.link.tx = none) ∧
      ((∀ r, rival = some r → (precedenceOf k s.self).toNat ≤ r.toNat) →
        ∃ c : Copy,
          t.link.tx = some c ∧ c.kind = k ∧ c.frame.precedence = precedenceOf k s.self ∧ c.probe = x.probe ∧ c.own = true ∧
          c.detached = false ∧ (k ≠ .cease → c.frame.payload = x.payload) ∧
          (k = .cease → ∀ a b1 b0 l, x.payload = [a, b1, b0, l] →
            c.frame.payload = a :: field16 (BitVec.ofNat 16 s.link.ceaseLeft) ++ [l]))

/-- A success empties the slot the copy was taken from, zeroes the streak and starts the hold-off after STATE and WARN; a copy whose slot has moved on leaves the slot, and one cut by RESTART leaves the streak too; a probe's success ends the isolation, after which a TRACTION node's applied grant is 0 until the next plan completion (R16, R17, R18, R20, R23, R170, R194). That the success of a copy cut by RESTART starts the hold-off too is the model's reading (notes/assumptions/17.md). -/
def Obligations.SuccessEmptiesTheSlot : Prop :=
  (∀ (s : State) (c : Copy),
      s.link.tx = some c → (c.probe = true → s.link.state ≠ .isolated ∨ c.detached = true) →
      ∃ t : State,
        exec .transmissionSuccess s = .next t ∧
        t =
          { s with
            link :=
              { s.link with
                outbox := t.link.outbox, ceaseLeft := t.link.ceaseLeft, streak := t.link.streak, holdOff := t.link.holdOff,
                tx := none, line := .waiting } } ∧
        (c.own = true → c.detached = false →
          t.link.outbox.get c.kind = none ∧ (∀ k, k ≠ c.kind → t.link.outbox.get k = s.link.outbox.get k) ∧
          (c.kind = .cease → t.link.ceaseLeft = 0)) ∧
        (c.own = false ∨ c.detached = true → t.link.outbox = s.link.outbox ∧ t.link.ceaseLeft = s.link.ceaseLeft) ∧
        t.link.streak = (if c.detached then s.link.streak else 0) ∧
        ((c.kind = .state ∨ c.kind = .warn) → 0 < s.items.holdOff → t.link.holdOff = some (s.items.holdOff * 64)) ∧
        ((c.kind = .cease ∨ c.kind = .demand ∨ s.items.holdOff = 0) → t.link.holdOff = s.link.holdOff)) ∧
  (∀ (s : State) (c : Copy),
      s.link.tx = some c → c.probe = true → c.detached = false → c.kind = .state → s.link.state = .isolated →
      s.wear.isolation.alarm = true → s.locked = true → 0 < s.items.holdOff →
      ∃ t : State,
        exec .transmissionSuccess s = .next t ∧ t.link.state = .active ∧ t.link.streak = 0 ∧
        t.link.holdOff = some (s.items.holdOff * 64) ∧ t.link.tx = none ∧
        t.wear.isolation = { alarm := false, stamp := s.round.count } ∧ t.wear.refresh = 0 ∧
        (∃ x, t.link.outbox.warn = some x ∧ x.payload = warnPayload (ownWarnGroup t.wear) ∧ x.retries = 0) ∧
        (s.role = .traction → t.roles.traction.applied = 0 ∧ t.roles.traction.awaiting = true) ∧
        t.items = s.items ∧ t.round = s.round ∧ t.peers = s.peers ∧ t.share = s.share ∧ t.engine = s.engine ∧
        t.wheel = s.wheel ∧ t.capture = s.capture ∧ t.port = s.port)

/-- A failure raises the retry count of the copy's own slot, and of a copy whose slot has moved on, or that RESTART cut, it changes no slot and no streak; an exhaustion raises the streak and acts on the slot by its kind, and the streak that reaches 8 in ACTIVE isolates the node (R16, R17, R19, R23). -/
def Obligations.FailureAndExhaustion : Prop :=
  (∀ (s : State) (c : Copy), s.link.tx = some c →
      (c.own = false ∨ c.detached = true ∨ s.link.outbox.get c.kind = none →
        exec .transmissionFailure s = .next { s with link := { s.link with tx := none, line := .waiting } }) ∧
      (∀ x, c.own = true → c.detached = false → s.link.outbox.get c.kind = some x → x.retries + 1 < s.items.retryLimit →
        ∃ t : State,
          exec .transmissionFailure s = .next t ∧ t.link.outbox.get c.kind = some { x with retries := x.retries + 1 } ∧
          (∀ k, k ≠ c.kind → t.link.outbox.get k = s.link.outbox.get k) ∧
          t = { s with link := { s.link with outbox := t.link.outbox, tx := none, line := .waiting } })) ∧
  (∀ (s : State) (c : Copy) (x : Slot),
      s.link.tx = some c → c.own = true → c.detached = false → s.link.outbox.get c.kind = some x →
      s.items.retryLimit ≤ x.retries + 1 →
      ∃ t : State,
        exec .transmissionFailure s = .next t ∧ t.link.streak = min 255 (s.link.streak + 1) ∧ t.link.tx = none ∧
        t.link.line = .waiting ∧
        (¬(s.link.state = .active ∧ s.link.streak = 7) →
          (c.kind = .cease → t.link.outbox.cease = some { x with retries := 0 } ∧ t.link.ceaseLeft = s.link.ceaseLeft) ∧
          (c.kind = .demand ∨ c.kind = .state → t.link.outbox.get c.kind = none) ∧
          (c.kind = .warn → t.link.outbox.warn = some { x with retries := 0, waiting := true }) ∧
          (∀ k, k ≠ c.kind → t.link.outbox.get k = s.link.outbox.get k) ∧
          t =
            { s with
              link := { s.link with outbox := t.link.outbox, streak := t.link.streak, tx := none, line := .waiting } }) ∧
        (s.link.state = .active → s.link.streak = 7 →
          t.link.state = .isolated ∧ (∀ k, t.link.outbox.get k = none) ∧ t.link.ceaseLeft = 0 ∧ t.link.probeCount = 0 ∧
          t.wear.isolation.alarm = true ∧ isPending t .link = true ∧
          (s.role = .traction → t.roles.traction.applied = 0) ∧
          t.items = s.items ∧ t.round = s.round ∧ t.peers = s.peers ∧ t.share = s.share ∧ t.engine = s.engine ∧
          t.wheel = s.wheel ∧ t.capture = s.capture ∧ t.port = s.port))

/-- The CEASE remainder that runs out empties its slot; the probe count that reaches 100 places a probe; the emission timer places the STATE frame; the refresh count that reaches 100 in a locked state places a WARN frame (R14, R17, R20, R29, R194). That three of these rows stand for a boundary's part, and change nothing before it is due, is the model's (notes/assumptions/4.md), as are the marks of struck expiries (notes/assumptions/37.md). -/
def Obligations.TimedPlacementsAndExpiries : Prop :=
  (∀ s : State,
      (s.link.ceaseLeft = 1 →
        ∃ t : State,
          exec .ceaseRemainderExpiry s = .next t ∧ t.link.outbox = { s.link.outbox with cease := none } ∧ t.link.ceaseLeft = 0 ∧
          t = { s with link := { s.link with outbox := t.link.outbox, ceaseLeft := 0, tx := t.link.tx } }) ∧
      (s.link.ceaseLeft ≠ 1 → exec .ceaseRemainderExpiry s = .next s) ∧
      (s.link.state = .isolated → 99 ≤ s.link.probeCount →
        ∃ t : State,
          exec .probeCountExpiry s = .next t ∧
          t.link.outbox =
            { s.link.outbox with
              state := some { payload := statePayload (selfStateGroup s), retries := 0, probe := true, waiting := false } } ∧
          t = { s with link := { s.link with outbox := t.link.outbox, probeCount := 0, tx := t.link.tx } }) ∧
      (s.link.state ≠ .isolated ∨ s.link.probeCount < 99 → exec .probeCountExpiry s = .next s)) ∧
  (∀ (s : State) (n : Nat), s.round.emission = some n → s.round.emissionStruck = false →
      ∃ t : State,
        exec .stateEmission s = .next t ∧ t.round = { s.round with emission := none } ∧
        (s.link.state = .active →
          t.link.outbox =
            { s.link.outbox with
              state := some { payload := statePayload (selfStateGroup s), retries := 0, probe := false, waiting := false } }) ∧
        (s.link.state ≠ .active → t.link = s.link) ∧
        t = { s with round := t.round, link := { s.link with outbox := t.link.outbox, tx := t.link.tx } }) ∧
  (∀ s : State,
      (s.locked = true → 99 ≤ s.wear.refresh →
        ∃ t : State,
          exec .warnRefresh s = .next t ∧ t.wear = { s.wear with refresh := 0 } ∧
          (s.link.state = .active →
            t.link.outbox =
              { s.link.outbox with
                warn := some { payload := warnPayload (ownWarnGroup s.wear), retries := 0, probe := false, waiting := false } }) ∧
          (s.link.state ≠ .active → t.link = s.link) ∧
          t = { s with wear := t.wear, link := { s.link with outbox := t.link.outbox, tx := t.link.tx } }) ∧
      (s.locked = false ∨ s.wear.refresh < 99 → exec .warnRefresh s = .next s))

/-! ## Rounds and the Peer Table (R24 to R29, R35, R50, R52) -/

/-- An expiry of the boundary timer raises the round count, sets the timers by role and freshness, lowers the CEASE remainder and both cease windows, steps the held demand at a node that is not DEMAND, and judges SURPLUS for every single role (R25, R26, R28, R29, R36, R50, R52). At a TRACTION node under a steady grant the torque command and the duty stand (R169). An expiry that a DEMAND arrival taken first has struck out does not come (R27; the mark is the model's, notes/assumptions/37.md). -/
def Obligations.BoundaryExpiryTurnsTheRound : Prop :=
  (∀ (inputs : BitVec 4) (s : State), s.round.boundaryStruck = true →
    exec (.boundaryTimerExpiry inputs) s =
      .next { s with pins := { s.pins with inputs }, round := { s.round with boundaryStruck := false } }) ∧
  ∀ (inputs : BitVec 4) (s : State), s.round.boundaryStruck = false → s.items.sharing.staleLimit ≤ 8 →
    let raised : State := { s with round := { s.round with count := s.round.count + 1 } }
    ∃ t : State,
      exec (.boundaryTimerExpiry inputs) s = .next t ∧
      t.round =
        { count := s.round.count + 1, phase := 0, period := s.items.period,
          boundary :=
            if s.role ≠ .demand ∧ demandFresh raised = true then s.items.period * 1250 else s.items.period * 1000
          emission := if s.self.val = 0 then none else some (s.self.val * s.items.period * 50)
          boundaryStruck := false, emissionStruck := s.round.emissionStruck || decide (s.round.emission = some 0) } ∧
      (∀ i : Station, JudgedForSurplus t i) ∧
      (∀ i : Station, t.peers[i].surplus = true → s.peers[i].surplus = false → isPending t .link = true) ∧
      t.link.ceaseLeft = s.link.ceaseLeft - 1 ∧ (s.link.ceaseLeft = 1 → t.link.outbox.cease = none) ∧
      t.share.traction = (if s.share.traction.left ≤ 1 then .closed else { s.share.traction with left := s.share.traction.left - 1 }) ∧
      t.share.link = (if s.share.link.left ≤ 1 then .closed else { s.share.link with left := s.share.link.left - 1 }) ∧
      (s.role ≠ .demand → demandFresh raised = true → t.share.held = s.share.held ∧ t.share.staleCount = 0) ∧
      (s.role ≠ .demand → demandFresh raised = false →
        t.share.staleCount = min 65535 (s.share.staleCount + 1) ∧
        (0 < s.share.held → t.share.held = max 0 (s.share.held - s.items.sharing.decayStep)) ∧
        (s.share.held = 0 → t.share.held = 0) ∧
        (s.share.held < 0 → s.share.staleCount + 1 ≤ s.items.sharing.brakeHold → s.share.staleCount < 65535 →
          t.share.held = s.share.held) ∧
        (s.share.held < 0 → s.items.sharing.brakeHold < min 65535 (s.share.staleCount + 1) →
          t.share.held = min 0 (s.share.held + s.items.sharing.decayStep)) ∧
        (s.locked = true → t.share.pass.isSome = true)) ∧
      (s.role = .traction → s.roles.traction.applied = appliedGrant s → s.engine.list = none → s.ready.state ≠ .starting →
        s.ready.state ≠ .stopping → s.share.traction.left = 0 → s.share.link.left = 0 →
        t.roles.traction = s.roles.traction ∧ t.outputs.a.pending = s.outputs.a.pending) ∧
      t.pins = { s.pins with inputs } ∧ t.items = s.items ∧ t.wheel = s.wheel ∧ t.capture = s.capture ∧ t.port = s.port ∧
      t.pending = s.pending

/-- The figures of a demand computation: the tracks and the disagree flag (R137), the brake, both flag and raw demand (R138), the door clamp and stop hold (R139). At each boundary the Demand Role of a DEMAND node forms its result from them: the ramped demand while READY or DERATED, 0 otherwise, hands it to the Share Unit, and in a locked state reports each onset to the Wear Unit (R136, R140, R142, R143, R144). Stated where no list runs and no passage is due, so that the order of R136 is not open, and for an expiry that no arrival has struck out (notes/assumptions/37.md). -/
def Obligations.BoundaryComputesTheDemand : Prop :=
  (∀ (k : DemandItems) (c0 c1 c2 : Int) (doorLevel : Bool) (speed : Nat), k.deadband ≤ 999 →
    let f := demandFigures k c0 c1 c2 doorLevel speed
    let t0 := min 1000 (max 0 c0)
    let t1 := min 1000 (max 0 c1)
    let brake := min 1000 (max 0 c2)
    (f.disagree = true ↔ (k.tolerance : Int) < max t0 t1 - min t0 t1) ∧ (f.brake = true ↔ (k.deadband : Int) < brake) ∧
    (f.both = true ↔ (k.deadband : Int) < brake ∧ (k.threshold : Int) < min t0 t1) ∧
    ((k.deadband : Int) < brake → f.raw = -((brake - k.deadband) * k.brakeMax / (1000 - k.deadband))) ∧
    (brake ≤ k.deadband → f.raw = min t0 t1 * k.driveMax / 1000) ∧ -(k.brakeMax : Int) ≤ f.raw ∧ f.raw ≤ k.driveMax ∧
    (f.door = true ↔ doorLevel = k.doorHigh) ∧ (f.door = true → f.clamped = min f.raw 0) ∧
    (f.door = false → f.clamped = f.raw) ∧ (f.stopHold = true ↔ doorLevel = k.doorHigh ∧ speed ≤ k.stopSpeed)) ∧
  ∀ (inputs : BitVec 4) (s : State), s.round.boundaryStruck = false →
    s.role = .demand → s.engine.list = none → s.ready.state ≠ .starting → s.ready.state ≠ .stopping →
    let f := demandFigures s.items.demand (s.filtered 0) (s.filtered 1) (s.filtered 2) (inputs.getLsbD 0) (s.speed .c0)
    ∃ t : State,
      exec (.boundaryTimerExpiry inputs) s = .next t ∧
      t.roles.demand.result =
        (if s.available then
          (if s.roles.demand.rampBase < f.clamped then min f.clamped (s.roles.demand.rampBase + s.items.demand.rampUp)
           else f.clamped)
         else 0) ∧
      t.roles.demand.rampBase = t.roles.demand.result ∧
      t.roles.demand.sequence = (if s.available then s.roles.demand.sequence + 1 else s.roles.demand.sequence) ∧
      t.roles.demand.computed = true ∧ t.roles.demand.brake = f.brake ∧ t.roles.demand.both = f.both ∧
      t.roles.demand.disagree = f.disagree ∧ t.roles.demand.door = f.door ∧ t.roles.demand.stopHold = f.stopHold ∧
      t.roles.demand.quiet = s.roles.demand.quiet ∧
      (∀ (i : Fin 12) (r : WearRecord), s.wear.slots[i] = some r → r.kind = .pedalDisagree ∨ r.kind = .bothPedals →
        r.value < Config.wearTop →
        ∃ u, t.wear.slots[i] = some u ∧ u.kind = r.kind ∧
          u.value =
            r.value +
              (if s.locked = true ∧
                  ((r.kind = .pedalDisagree ∧ f.disagree = true ∧ s.roles.demand.disagree = false) ∨
                    (r.kind = .bothPedals ∧ f.both = true ∧ s.roles.demand.both = false)) then 1
              else 0)) ∧
      (∃ g, t.peers[s.self].demand = some g ∧ g.sequence = t.roles.demand.sequence ∧ g.demand = t.roles.demand.result ∧
        g.speed = s.speed .c0 ∧ g.arrival = s.round.count + 1 ∧
        (s.available = true → s.link.state = .active →
          ∃ x, t.link.outbox.demand = some x ∧ x.payload = demandPayload g ∧ x.retries = 0)) ∧
      DemandTriggered t.roles.demand.result s t

/-- A present record other than the self-entry whose newest arrival lies more than 250 rounds behind is cleared; SURPLUS is then judged anew for every single role (R36). Any other record is left as it stands; that the row alone changes nothing then is the model's (notes/assumptions/4.md). Stated at every role but FRICTION. -/
def Obligations.SilentRecordIsForgotten : Prop :=
  ∀ (i : Station) (s : State), s.role ≠ .friction →
    ((i ≠ s.self ∧ s.peers[i].present = true ∧
        (s.peers[i].state.isSome = true ∨ s.peers[i].demand.isSome = true ∨ s.peers[i].warn.isSome = true) ∧
        (∀ g, s.peers[i].state = some g → 250 < ageOf s g.arrival) ∧
        (∀ g, s.peers[i].demand = some g → 250 < ageOf s g.arrival) ∧
        (∀ g, s.peers[i].warn = some g → 250 < ageOf s g.arrival)) →
      ∃ t : State,
        exec (.recordForget i) s = .next t ∧ t.peers[i] = {} ∧ (∀ j : Station, JudgedForSurplus t j) ∧
        (∀ j : Station, t.peers[j].surplus = true → s.peers[j].surplus = false → isPending t .link = true) ∧
        KeepsOtherPeers i s t ∧ TouchesPeers s t) ∧
    ((i = s.self ∨ s.peers[i].present = false ∨ (∃ g, s.peers[i].state = some g ∧ ageOf s g.arrival ≤ 250) ∨
        (∃ g, s.peers[i].demand = some g ∧ ageOf s g.arrival ≤ 250) ∨
        (∃ g, s.peers[i].warn = some g ∧ ageOf s g.arrival ≤ 250)) →
      exec (.recordForget i) s = .next s)

/-! ## Cease windows (R52) -/

/-! ## The share computation (R55 to R65) -/

/-- The proportional split (R56): weight 0 receives 0, a total is shared out whole over positive weights, each share lies within one unit of its exact share, the units go from the lowest place upward, and no share exceeds its weight when the total does not exceed the sum. -/
def Obligations.SplitSharesTheTotal : Prop :=
  ∀ (v : Nat) (w : List Nat),
    (split v w).length = w.length ∧
    (w.sum = 0 → ∀ x ∈ split v w, x = 0) ∧
    (0 < w.sum → (split v w).sum = v) ∧ (v = w.sum → split v w = w) ∧
    (∀ i : Nat, i < w.length → w.getD i 0 = 0 → (split v w).getD i 0 = 0) ∧
    (0 < w.sum → ∀ i : Nat, i < w.length →
      v * w.getD i 0 / w.sum ≤ (split v w).getD i 0 ∧ (split v w).getD i 0 ≤ v * w.getD i 0 / w.sum + 1) ∧
    (0 < w.sum → ∀ i j : Nat, i < j → j < w.length → w.getD i 0 ≠ 0 →
      (split v w).getD j 0 = v * w.getD j 0 / w.sum + 1 → (split v w).getD i 0 = v * w.getD i 0 / w.sum + 1) ∧
    (0 < w.sum → v - (w.map fun x => v * x / w.sum).sum < (w.filter fun x => x ≠ 0).length) ∧
    (0 < w.sum → v ≤ w.sum → ∀ i : Nat, i < w.length → (split v w).getD i 0 ≤ w.getD i 0)

/-- The mode of a plan follows from the held demand of its snapshot (R55). -/
def Obligations.ModeFollowsTheHeldDemand : Prop :=
  ∀ (p : Sharing) (n : Snapshot),
    (0 < n.demand → (computePlan p n).mode = .traction ∧ computePlan p n = tractionPlan p n) ∧
    (n.demand = 0 → (computePlan p n).mode = .coast ∧ computePlan p n = tractionPlan p n ∧ (computePlan p n).base = 0 ∧
      (computePlan p n).gSet + (computePlan p n).pb = (computePlan p n).supply) ∧
    (n.demand < 0 → (computePlan p n).mode = .braking ∧ computePlan p n = brakingPlan p n)

/-- A plan in TRACTION or COAST keeps every limit: the drive grants sum to D_cap, each within its motor's limit; G_set lies within 0 to Ga, Pb within −Bc to Bd unless SUPPLY-SHORT, and then D_cap is 0; an open cease window removes all drive (R57, R58, R59). -/
def Obligations.TractionPlanKeepsItsLimits : Prop :=
  ∀ (p : Sharing) (n : Snapshot), 0 ≤ n.demand →
    let b := computePlan p n
    let pm : Nat := (figuresOf n .traction (·.limitA)).sum
    0 ≤ b.base ∧ b.base ≤ n.demand ∧ b.base ≤ pm ∧
    (n.tractionCease = true ∨ n.linkCease = true → b.base = 0) ∧
    b.supply = b.base + p.x ∧ b.pb = b.supply - b.gSet ∧ 0 ≤ b.gSet ∧ b.gSet ≤ gensetPower n ∧
    (n.linkCease = true → b.gSet = 0) ∧ -(packCharge n : Int) ≤ b.pb ∧
    (b.flags.supplyShort = false → b.pb ≤ packDischarge n) ∧
    (b.flags.supplyShort = true → (packDischarge n : Int) < b.pb ∧ b.base = 0) ∧
    (b.flags.packDischarge = true → b.flags.packCharge = false) ∧
    (allStations.map fun i => if inSet n .traction i then (b.grants[i]).getD 0 else 0).sum = b.base ∧
    (∀ i : Station, inSet n .traction i = true → ∃ g, b.grants[i] = some g ∧ 0 ≤ g ∧ g ≤ (n.stations[i]).limitA) ∧
    (∀ i : Station, inSet n .friction i = true → b.grants[i] = some 0) ∧
    (∀ i : Station, inSet n .traction i = false → inSet n .friction i = false → b.grants[i] = none) ∧
    b.rTot = 0 ∧ b.fTot = 0 ∧ b.deficit = 0 ∧ (b.flags.motorLimit = true ↔ (pm : Int) < n.demand)

/-- A plan in BRAKING accounts for the whole demand: recovery, friction grants and deficit sum to Q; recovery stays within ΣRm and Bc + X and is 0 under LINK CEASE; regeneration grants sum to R_tot, each within its motor's limit; each friction grant lies within its station's Fmax (R60, R61, R62). -/
def Obligations.BrakingPlanAccountsForTheDemand : Prop :=
  ∀ (p : Sharing) (n : Snapshot), n.demand < 0 → p.rho ≤ 1000 →
    let b := computePlan p n
    b.base = -n.demand ∧ b.gSet = 0 ∧ b.supply = p.x ∧ b.pb = p.x - b.rTot ∧ -(packCharge n : Int) ≤ b.pb ∧
    0 ≤ b.rTot ∧ b.rTot ≤ (figuresOf n .traction (·.limitB)).sum ∧ b.rTot ≤ packCharge n + p.x ∧
    (n.linkCease = true → b.rTot = 0) ∧ b.rTot ≤ b.base ∧ b.fTot = b.base - b.rTot ∧ 0 ≤ b.deficit ∧
    b.rTot + (allStations.map fun i => if inSet n .friction i then (b.grants[i]).getD 0 else 0).sum + b.deficit = b.base ∧
    (allStations.map fun i => if inSet n .traction i then -((b.grants[i]).getD 0) else 0).sum = b.rTot ∧
    (∀ i : Station, inSet n .traction i = true → ∃ g, b.grants[i] = some g ∧ g ≤ 0 ∧ -g ≤ (n.stations[i]).limitB) ∧
    (∀ i : Station, inSet n .friction i = true → ∃ g, b.grants[i] = some g ∧ 0 ≤ g ∧ g ≤ (n.stations[i]).limitA) ∧
    (∀ i : Station, inSet n .traction i = false → inSet n .friction i = false → b.grants[i] = none) ∧
    (b.flags.deficit = true ↔ 0 < b.deficit) ∧
    (b.flags.ceilingLifted = true ↔ min ((-n.demand).toNat * p.rho / 1000) (recoveryCap p n) < b.rTot)

/-- A completion publishes the plan of its snapshot under the next number, clears both reset holds, reports the deficit, raises SHARE attention for a deficit that is new, and starts the pass of the pending slot; a TRACTION node applies its own grant unless a condition of R168 withholds it and commands its torque; a GENSET node sets its request by the seven cases and writes its setpoint duty; a FRICTION node keeps or drops its contributions, forms its own part and its applied brake power, by the fallback while isolated, and steps its lining estimate under the brake in force before the completion (R47, R64, R65, R66, R124, R149, R150, R152, R168, R169, R172, R173, R174, R176, R177). That the own part is brought to at most 12,000, and that a grant of the same value forms the torque command anew, are the model's (notes/assumptions/39.md and 55.md). The duties are stated while no list holds output A and its map is in order, a brake's also without stop hold. -/
def Obligations.CompletionPublishesThePlan : Prop :=
  (∀ (inputs : BitVec 4) (s : State) (q : Pass), s.share.pass = some q →
      let b := computePlan s.items.sharing q.snap
      ∃ t : State,
        exec (.shareCompletion inputs) s = .next t ∧ t.share.planCounter = s.share.planCounter + 1 ∧
        t.share.plan =
          some
            { number := s.share.planCounter + 1, round := s.round.count, body := b,
              ownGrant := ownGrantOf s.role s.self q.snap b } ∧
        (s.share.pendingDemand = none → t.share.pass = none ∧ t.share.held = s.share.held) ∧
        (∀ d, s.share.pendingDemand = some d →
          t.share.held = d ∧ t.share.pendingDemand = none ∧ ∃ r, t.share.pass = some r ∧ r.age = 0 ∧ r.snap.demand = d) ∧
        t.outputs.a.resetHold = false ∧ t.outputs.b.resetHold = false ∧ t.wear.deficit.alarm = decide (0 < b.deficit) ∧
        (b.flags.deficit = true → (∀ o, s.share.plan = some o → o.body.flags.deficit = false) → isPending t .share = true) ∧
        t.share.traction = s.share.traction ∧ t.share.link = s.share.link ∧ t.pins = { s.pins with inputs } ∧
        t.items = s.items ∧ t.round = s.round ∧ t.peers = s.peers ∧ t.wheel = s.wheel ∧ t.capture = s.capture ∧
        t.link.state = s.link.state ∧ t.port = s.port ∧ t.pending = s.pending) ∧
  (∀ (inputs : BitVec 4) (s : State) (q : Pass), s.share.pass = some q →
      ∃ t : State,
        exec (.shareCompletion inputs) s = .next t ∧
        (s.role = .traction →
          t.roles.traction.applied =
            (if s.available = true ∧ s.share.traction.left = 0 ∧ s.share.link.left = 0 ∧ s.link.state ≠ .isolated then
              grantOf (computePlan s.items.sharing q.snap) s.self
            else 0) ∧
          t.roles.traction.awaiting = false ∧
          t.roles.traction.torque = torqueOf s.items.traction t.roles.traction.applied (s.speed .c0) ∧
          t.roles.traction.torque.natAbs =
            min (t.roles.traction.applied.natAbs * 9549 / (10 * max (s.speed .c0) s.items.traction.rpmFloor))
              s.items.traction.torqueMax ∧
          (0 ≤ t.roles.traction.applied → 0 ≤ t.roles.traction.torque) ∧
          (t.roles.traction.applied ≤ 0 → t.roles.traction.torque ≤ 0) ∧
          t.roles.traction.torque.natAbs ≤ s.items.traction.torqueMax ∧
          (s.engine.holdsA = false → s.items.dutyLo ≤ s.items.dutyHi → 1 ≤ s.items.traction.torqueMax →
            (t.outputs.a.pending : Int) =
              s.items.dutyLo +
                (t.roles.traction.torque + s.items.traction.torqueMax) * ((s.items.dutyHi : Int) - s.items.dutyLo) /
                  (2 * s.items.traction.torqueMax))) ∧
        (s.role = .genset →
          let quiet := ∃ g, freshDemandGroup s = some g ∧ g.flags.quiet = true
          let supply := (computePlan s.items.sharing q.snap).supply
          (s.peers[s.self].surplus = true → t.roles.genset.request = false) ∧
          (s.peers[s.self].surplus = false → (packStation q.snap).isNone = true → t.roles.genset.request = true) ∧
          (s.peers[s.self].surplus = false → (packStation q.snap).isNone = false →
            (quiet → (t.roles.genset.request = true ↔ packSoc q.snap < s.items.sharing.socCrit)) ∧
            (¬quiet → packSoc q.snap < s.items.sharing.socLow ∨ (s.items.sharing.pEv : Int) < supply →
              t.roles.genset.request = true) ∧
            (¬quiet → s.items.sharing.socLow ≤ packSoc q.snap → supply ≤ s.items.sharing.pEv →
              t.roles.genset.request =
                (if s.items.sharing.socHigh ≤ packSoc q.snap then false else s.roles.genset.request))) ∧
          (s.engine.holdsA = false → s.items.dutyLo ≤ s.items.dutyHi →
            (s.items.ratedA = 0 → t.outputs.a.pending = s.items.dutyLo) ∧
            (0 < s.items.ratedA →
              (t.outputs.a.pending : Int) =
                s.items.dutyLo +
                  min (s.items.ratedA : Int)
                      (max 0
                        (if q.snap.genset = some s.self ∧ (q.snap.stations[s.self]).usable = true then
                          (computePlan s.items.sharing q.snap).gSet
                        else 0)) *
                    ((s.items.dutyHi : Int) - s.items.dutyLo) / s.items.ratedA))) ∧
        (s.role = .pack → t.roles = s.roles) ∧ (s.role = .demand → t.roles = s.roles) ∧
        (s.role = .friction →
          t.roles.friction.lastCompletion = some s.capture.micros ∧ t.roles.friction.aux = t.roles.friction.temp ∧
          -400 ≤ t.roles.friction.temp ∧ t.roles.friction.temp ≤ 12000 ∧
          ((computePlan s.items.sharing q.snap).mode ≠ .braking → s.link.state ≠ .isolated →
            t.roles.friction.applied = 0 ∧ ∀ i : Station, t.roles.friction.contributions[i] = 0) ∧
          (∀ i : Station,
            t.roles.friction.contributions[i] =
              (if q.snap.demand < 0 ∧ ((computePlan s.items.sharing q.snap).grants[i]).isSome = true then
                s.roles.friction.contributions[i]
              else 0)) ∧
          t.roles.friction.ownPart =
            (if q.snap.demand < 0 ∧ inSet q.snap .friction s.self = true then
              min 12000
                ((split t.roles.friction.contributions.toList.sum (frictionWeights s.items.sharing q.snap)).getD s.self.val 0)
            else 0) ∧
          (q.snap.demand < 0 → s.link.state ≠ .isolated →
            t.roles.friction.applied =
              min t.ready.limitA
                ((grantOf (computePlan s.items.sharing q.snap) s.self).toNat + t.roles.friction.ownPart)) ∧
          (s.link.state = .isolated →
            t.roles.friction.applied =
              (if t.share.held < 0 then
                min t.ready.limitA ((-t.share.held).toNat * s.items.sharing.distribution[s.self] / 1000)
              else 0)) ∧
          (s.engine.holdsA = false → s.items.dutyLo ≤ s.items.dutyHi → t.roles.friction.stopHold = false →
            t.outputs.a.pending =
              (if s.items.ratedA = 0 then s.items.dutyLo
              else
                min s.items.dutyHi
                  (s.items.dutyLo + t.roles.friction.applied * (s.items.dutyHi - s.items.dutyLo) / s.items.ratedA))) ∧
          (let f := s.roles.friction
           let k := s.items.friction
           let dt : Nat := match f.lastCompletion with | none => 0 | some at_ => min 1000 ((s.capture.micros - at_).toNat / 1000)
           let e : Int := f.applied * dt + f.energyRem
           let h : Int := e.tdiv 10 * k.heating + f.heatRem
           let warm : Int := f.temp + h.tdiv 100000
           let c : Int := (warm - k.ambient) * k.cooling + f.coolRem
           t.roles.friction.temp = min 12000 (max (-400) (warm - c.tdiv 1048576)) ∧ t.roles.friction.energyRem = e.tmod 10 ∧
             t.roles.friction.heatRem = h.tmod 100000 ∧ t.roles.friction.coolRem = c.tmod 1048576)))

/-! ## The Wear Unit (R182 to R194) -/

/-- A RISING record moves up and never down by accrual (R186). A level record moves up and down with its hysteresis, LEVEL-LOW-BAD as the mirror image (R187). That a RISING value of 4,294,967,295 reaches thresholds of 4,294,967,295 too, of which R180 says that a record with thresholds not loaded never leaves CLEAR, is the model's (DESIGN CHOICE, notes/assumptions/53.md). -/
def Obligations.WearRecordsAreJudged : Prop :=
  (∀ r : WearRecord, kindDirection r.kind = .rising →
      (r.alarm ≤ r.value → judgeRecord r = .alarm) ∧
      (r.value < r.alarm → r.watch ≤ r.value → r.state = .clear → judgeRecord r = .watch) ∧
      (r.value < r.alarm → r.watch ≤ r.value → r.state ≠ .clear → judgeRecord r = r.state) ∧
      (r.value < r.alarm → r.value < r.watch → judgeRecord r = r.state) ∧
      (r.value ≤ Config.wearTop →
        (∀ n, r.value ≤ raiseValue n r.value) ∧ (∀ unit, r.value ≤ (foldCarry unit r).value))) ∧
  (∀ r : WearRecord,
      (kindDirection r.kind = .levelHighBad →
        (r.state = .clear → r.alarm ≤ r.value → judgeRecord r = .alarm) ∧
        (r.state = .clear → r.watch ≤ r.value → r.value < r.alarm → judgeRecord r = .watch) ∧
        (r.state = .clear → r.value < r.watch → r.value < r.alarm → judgeRecord r = .clear) ∧
        (r.state = .watch → r.alarm ≤ r.value → judgeRecord r = .alarm) ∧
        (r.state = .watch → r.value < r.alarm → r.value < r.watch - r.hysteresis → judgeRecord r = .clear) ∧
        (r.state = .watch → r.value < r.alarm → r.watch - r.hysteresis ≤ r.value → judgeRecord r = .watch) ∧
        (r.state = .alarm → r.value < r.alarm - r.hysteresis → r.watch - r.hysteresis ≤ r.value → judgeRecord r = .watch) ∧
        (r.state = .alarm → r.value < r.alarm - r.hysteresis → r.value < r.watch - r.hysteresis → judgeRecord r = .clear) ∧
        (r.state = .alarm → r.alarm - r.hysteresis ≤ r.value → judgeRecord r = .alarm)) ∧
      (kindDirection r.kind = .levelLowBad →
        (r.state = .clear → r.value ≤ r.alarm → judgeRecord r = .alarm) ∧
        (r.state = .clear → r.value ≤ r.watch → r.alarm < r.value → judgeRecord r = .watch) ∧
        (r.state = .clear → r.watch < r.value → r.alarm < r.value → judgeRecord r = .clear) ∧
        (r.state = .watch → r.value ≤ r.alarm → judgeRecord r = .alarm) ∧
        (r.state = .watch → r.alarm < r.value → r.watch + r.hysteresis < r.value → judgeRecord r = .clear) ∧
        (r.state = .watch → r.alarm < r.value → r.value ≤ r.watch + r.hysteresis → judgeRecord r = .watch) ∧
        (r.state = .alarm → r.alarm + r.hysteresis < r.value → r.value ≤ r.watch + r.hysteresis → judgeRecord r = .watch) ∧
        (r.state = .alarm → r.alarm + r.hysteresis < r.value → r.watch + r.hysteresis < r.value → judgeRecord r = .clear) ∧
        (r.state = .alarm → r.value ≤ r.alarm + r.hysteresis → judgeRecord r = .alarm)))

/-- Only a reset, and a loading of the slot's kind, a RESTORE WEAR and a SERVICE RESET that name the slot lower the value of a RISING record; every other command, a loading of any other item and of any other slot among them, keeps the record's kind and never lowers it (R180, R182, R184, R186). -/
def Obligations.RisingValuesNeverFall : Prop :=
  ∀ (c : Instr) (s t : State) (i : Fin 12) (r : WearRecord),
    mayLowerWear i c = false → exec c s = .next t → s.wear.slots[i] = some r → kindDirection r.kind = .rising →
    r.value ≤ Config.wearTop →
    ∃ u, t.wear.slots[i] = some u ∧ u.kind = r.kind ∧ r.value ≤ u.value ∧ u.value ≤ Config.wearTop

/-! ## The Readiness Controller and the Step Engine (R71 to R95) -/

/-- A list whose budget, or whose waiting HOLD's timeout, runs out ends FAILED at its step, with cause BUDGET or TIMEOUT: outcome recorded, stack, wait, hold on output A and pulses ended, STEP attention raised, and an ENTRY list of a node that is no generator set takes readiness to FAULTED with cause START (R73, R87, R90, R94). That the rows stand for a boundary's part is the model's (notes/assumptions/4.md). -/
def Obligations.ExpiredListFails : Prop :=
  (∀ (name : ListName) (s : State), s.engine.list = some name → s.engine.budget + 1 = budgetOf s.items name →
    ∃ t : State,
      exec .listBudgetExpiry s = .next t ∧ ListFailed name .budget s t ∧ t.pins = s.pins) ∧
  (∀ (inputs : BitVec 4) (name : ListName) (left timeout : Nat) (c : Condition) (ignore : Bool) (s : State),
    s.engine.list = some name → s.engine.wait = .hold left → left ≤ 1 →
    s.engine.memory[s.engine.pointer] = .hold c timeout ignore →
    holdPasses { s with pins := { s.pins with inputs } } c ignore = false →
    ∃ t : State,
      exec (.holdTimeout inputs) s = .next t ∧ ListFailed name .timeout s t ∧ t.pins = { s.pins with inputs })

/-- A PAUSE that runs out gives way to the next step: a following PAUSE waits in its turn, and a PAUSE at step 63 ends the list with cause INDEX; a pulse that runs out drives its line off, which FAULTED holding drops (R89, R92, R93, R125). That the rows stand for a boundary's part is the model's (notes/assumptions/4.md). -/
def Obligations.PauseAndPulseEnd : Prop :=
  (∀ (inputs : BitVec 4) (name : ListName) (left : Nat) (s : State), s.engine.list = some name → s.engine.wait = .pause left →
      (1 < left → exec (.pauseEnd inputs) s = .next { s with pins := { s.pins with inputs } }) ∧
      (∀ (p : Fin 64) (k : Nat), left ≤ 1 → p.val = s.engine.pointer.val + 1 → s.engine.memory[p] = .pause k →
        exec (.pauseEnd inputs) s =
          .next { s with pins := { s.pins with inputs }, engine := { s.engine with pointer := p, wait := .pause k } }) ∧
      (left ≤ 1 → s.engine.pointer.val = 63 →
        ∃ t : State,
          exec (.pauseEnd inputs) s = .next t ∧ t.engine.list = none ∧
          t.engine.outcome = some { list := name, verdict := .failed, cause := some .index, failStep := some 63 })) ∧
  (∀ (l : Fin 4) (s : State),
      (s.engine.pulses[l] = 1 →
        exec (.pulseEnd l) s =
          .next
            { s with
              engine := { s.engine with pulses := alter s.engine.pulses l fun _ => 0 }
              outputs :=
                { s.outputs with
                  lines :=
                    if s.ready.state = .faulted then s.outputs.lines
                    else alter s.outputs.lines l fun _ => { on := false, driven := true } } }) ∧
      (s.engine.pulses[l] ≠ 1 → exec (.pulseEnd l) s = .next s))

/-- SKIP reads its condition once and does not wait: true passes over the next step, false goes on to it, in or out of output A's shutdown (R91). PAUSE waits its rounds, whatever output A does (R92). CALL, RETURN and JUMP move the step pointer and fail with STACK and INDEX, and SET writes its target, each of the five, or fails with PROTECTED (R88, R93). PULSE drives its line on and sets the pulse count, or leaves a running one by the retrigger flag (R89). A HOLD passes or begins to wait, and is evaluated again at each boundary (R90). END ends the list with its verdict, which the Readiness Controller takes (R73, R94). A list starts at its start index with an empty stack and takes its first turn at once, of 8 steps at the most (R86, R87). That a boundary takes its parts in this order, that no test of the generator request is made at a boundary at which a list ran, and STACK before INDEX, are the model's (notes/assumptions/5.md, 23.md and 41.md). -/
def Obligations.StepsAreCarriedOut : Prop :=
  (∀ (c : Condition) (p : Fin 64) (s : State),
      (holdsCondition s c = true → p.val = s.engine.pointer.val + 2 →
        carryOut (.skip c) s = ({ s with engine := { s.engine with pointer := p } }, true)) ∧
      (holdsCondition s c = false → p.val = s.engine.pointer.val + 1 →
        carryOut (.skip c) s = ({ s with engine := { s.engine with pointer := p } }, true)) ∧
      (∀ inShutdown, holdsCondition { s with outputs := { s.outputs with a := { s.outputs.a with inShutdown } } } c =
        holdsCondition s c)) ∧
  ((∀ (k : Nat) (s : State), carryOut (.pause k) s = ({ s with engine := { s.engine with wait := .pause k } }, false)) ∧
    (∀ (left : Nat) (s : State), s.engine.wait = .pause left → 1 < left →
      stepWait s = { s with engine := { s.engine with wait := .pause (left - 1) } }) ∧
    (∀ (p : Fin 64) (s : State), s.engine.wait = .pause 1 → p.val = s.engine.pointer.val + 1 →
      stepWait s = runTurn 8 { s with engine := { s.engine with wait := .none, pointer := p } }) ∧
    (∀ (name : ListName) (s : State), s.engine.list = some name →
      readinessBoundary s = boundaryTurn (deriveLimits (raiseCounts (stepPulses s))) ∧
      (s.engine.budget + 1 ≠ budgetOf s.items name →
        boundaryTurn s = stepWait { s with engine := { s.engine with budget := s.engine.budget + 1 } }))) ∧
  (∀ (target p : Fin 64) (s : State), s.engine.stack.length < 4 → p.val = s.engine.pointer.val + 1 →
    carryOut (.call target.val) s = ({ s with engine := { s.engine with stack := p :: s.engine.stack, pointer := target } }, true)) ∧
  (∀ (target : Nat) (s : State), s.engine.stack.length < 4 → 63 < target ∨ s.engine.pointer.val = 63 →
    carryOut (.call target) s = (endList (some .index) s, false)) ∧
  (∀ (target : Nat) (s : State), 4 ≤ s.engine.stack.length → carryOut (.call target) s = (endList (some .stack) s, false)) ∧
  (∀ (top : Fin 64) (rest : List (Fin 64)) (s : State), s.engine.stack = top :: rest →
    carryOut .ret s = ({ s with engine := { s.engine with stack := rest, pointer := top } }, true)) ∧
  (∀ s : State, s.engine.stack = [] → carryOut .ret s = (endList (some .stack) s, false)) ∧
  (∀ (target : Fin 64) (s : State), carryOut (.jump target.val) s = ({ s with engine := { s.engine with pointer := target } }, true)) ∧
  (∀ (target : Nat) (s : State), 63 < target → carryOut (.jump target) s = (endList (some .index) s, false)) ∧
  (∀ (value : Nat) (s : State), s.role = .traction ∨ s.role = .genset ∨ s.items.protectedTargets = false →
    carryOut (.set (.outputA value)) s = (endList (some .protected_) s, false)) ∧
  (∀ (value : Nat) (p : Fin 64) (s : State), p.val = s.engine.pointer.val + 1 →
    carryOut (.set (.outputB value)) s =
      ({ s with
          outputs := { s.outputs with b := { s.outputs.b with pending := value } }
          engine := { s.engine with pointer := p } }, true)) ∧
  (∀ (value : Nat) (p : Fin 64) (s : State), s.role ≠ .traction → s.role ≠ .genset → s.items.protectedTargets = true →
    s.items.dutyLo ≤ s.items.dutyHi → p.val = s.engine.pointer.val + 1 →
    carryOut (.set (.outputA value)) s =
      ({ s with
          outputs := { s.outputs with a := { s.outputs.a with pending := min s.items.dutyHi (max s.items.dutyLo value) } }
          engine := { s.engine with pointer := p, holdsA := true } }, true)) ∧
  (∀ (on : Bool) (l : Fin 4) (p : Fin 64) (s : State), p.val = s.engine.pointer.val + 1 →
    carryOut (.set (if on then .lineOn l else .lineOff l)) s =
      ({ s with
          outputs :=
            { s.outputs with
              lines :=
                if s.ready.state = .faulted then s.outputs.lines
                else alter s.outputs.lines l fun _ => { on := on, driven := true } }
          engine := { s.engine with pointer := p, pulses := alter s.engine.pulses l fun _ => 0 } }, true)) ∧
  (∀ (value : Nat) (s : State),
    (s.items.protectedTargets = false → carryOut (.set (.limitOverride value)) s = (endList (some .protected_) s, false)) ∧
    (∀ p : Fin 64, s.items.protectedTargets = true → p.val = s.engine.pointer.val + 1 →
      ∃ t : State,
        carryOut (.set (.limitOverride value)) s = (t, true) ∧ t.ready.limitOverride = value ∧
        t.ready.factor = min (curveNow s) (min s.wear.factor value) ∧
        (s.ready.state = .starting → t.ready.state = .starting ∧ t.ready.limitA = 0 ∧ t.ready.limitB = 0) ∧
        t.engine = { s.engine with pointer := p } ∧ t.items = s.items ∧ t.link = s.link ∧ t.share = s.share)) ∧
  (∀ (l : Fin 4) (k : Nat) (p : Fin 64) (s : State), p.val = s.engine.pointer.val + 1 →
    carryOut (.pulse l k) s =
      ({ s with
          outputs :=
            { s.outputs with
              lines :=
                if s.ready.state = .faulted then s.outputs.lines
                else alter s.outputs.lines l fun _ => { on := true, driven := true } }
          engine :=
            { s.engine with
              pointer := p
              pulses :=
                if 0 < s.engine.pulses[l] ∧ s.items.discretes[l].retrigger = false then s.engine.pulses
                else alter s.engine.pulses l fun _ => k } }, true)) ∧
  (∀ (c : Condition) (timeout : Nat) (ignore : Bool) (s : State),
    let passes : Bool := holdsCondition s c && (!s.outputs.a.inShutdown || ignore)
    (∀ p : Fin 64, passes = true → p.val = s.engine.pointer.val + 1 →
      carryOut (.hold c timeout ignore) s = ({ s with engine := { s.engine with pointer := p } }, true)) ∧
    (passes = false →
      carryOut (.hold c timeout ignore) s = ({ s with engine := { s.engine with wait := .hold timeout } }, false)) ∧
    (∀ left : Nat, s.engine.wait = .hold left → s.engine.memory[s.engine.pointer] = .hold c timeout ignore →
      (∀ p : Fin 64, passes = true → p.val = s.engine.pointer.val + 1 →
        stepWait s = runTurn 7 { s with engine := { s.engine with wait := .none, pointer := p } }) ∧
      (passes = false → 1 < left → stepWait s = { s with engine := { s.engine with wait := .hold (left - 1) } }))) ∧
  (∀ (name : ListName) (ready : Bool) (s : State), s.engine.list = some name →
    ∃ t : State,
      carryOut (.end_ ready) s = (t, false) ∧
      t.engine =
        { s.engine with
          list := none, stack := [], wait := .none, holdsA := false
          pulses := if ready = true then s.engine.pulses else Vector.ofFn fun _ => 0
          outcome :=
            some
              { list := name, verdict := if ready then .ready else .failed, cause := if ready then none else some .end_
                failStep := if ready then none else some s.engine.pointer } } ∧
      (∀ l : Fin 4, t.ready.state ≠ .faulted → s.ready.state ≠ .faulted →
        t.outputs.lines[l] =
          if ready = false ∧ 0 < s.engine.pulses[l] then { on := false, driven := true } else s.outputs.lines[l]) ∧
      (s.ready.state = .starting → name = .entry → ready = true →
        t.ready.state = (if limitFactor s < 1000 then .derated else .ready)) ∧
      (s.ready.state = .starting → name = .entry → ready = false → s.role ≠ .genset →
        t.ready.state = .faulted ∧ t.ready.causes = { s.ready.causes with start := true }) ∧
      (s.ready.state = .stopping → name = .exit → ready = true →
        t.ready.state = (match s.ready.stopDest with | .offline => .offline | .standby => .standby)) ∧
      (s.ready.state = .stopping → name = .exit → ready = false →
        t.ready.state = .faulted ∧ t.ready.causes = { s.ready.causes with stop := true }) ∧
      isPending t .step = true ∧ t.items = s.items ∧ t.round = s.round ∧ t.peers = s.peers ∧ t.share = s.share) ∧
  (∀ (name : ListName) (i : Fin 64) (s : State), startOf s.items name = some i →
    let begun : State :=
      { s with
        engine :=
          { s.engine with
            list := some name, pointer := i, stack := [], budget := 0, wait := .none,
            outcome := some { list := name, verdict := .running, cause := none, failStep := none } } }
    (∀ k, s.engine.memory[i] = .pause k →
      startList name s = { begun with engine := { begun.engine with wait := .pause k } }) ∧
    (s.engine.memory[i] = .jump i.val → startList name s = begun) ∧
    (∀ (v k : Nat) (p : Fin 64), s.engine.memory[i] = .set (.outputB v) → p.val = i.val + 1 → s.engine.memory[p] = .pause k →
      startList name s =
        { begun with
          outputs := { s.outputs with b := { s.outputs.b with pending := v } }
          engine := { begun.engine with pointer := p, wait := .pause k } }))

/-- A node in STARTING with no ENTRY list goes to READY, or to DERATED below a factor of 1000, with its posted limits derived and the Demand Role's ramp starting from 0 (R140); one in STOPPING with no EXIT list goes to its stop destination with limits 0 (R71, R73, R77, R83, R84). That the demand result is 0 at once, as the ramp base is, is DEDUCED (notes/assumptions/48.md). The derived limits are the rated figures under the limit factor, with the SOC factors of a PACK node and the torque bound and low-speed fade of a TRACTION node (R83, R158, R167). -/
def Obligations.PassagesWithoutAListComplete : Prop :=
  (∀ (s : State) (f : Nat),
    let ra := s.items.ratedA * f / 1000
    let rb := s.items.ratedB * f / 1000
    let soc := s.roles.pack.soc
    let bound := min rb (s.items.traction.torqueMax * s.speed .c0 * 10 / 9549)
    (s.role = .none ∨ s.role = .demand → derivedA s f = 0 ∧ derivedB s f = 0) ∧
    (s.role = .genset ∨ s.role = .friction → derivedA s f = ra ∧ derivedB s f = 0) ∧
    (s.role = .pack →
      (s.items.sharing.socLow ≤ soc → derivedA s f = ra) ∧
      (soc < s.items.sharing.socLow → derivedA s f = ra * (soc * 1000 / s.items.sharing.socLow) / 1000) ∧
      (soc ≤ 900 → derivedB s f = rb) ∧ (900 < soc → derivedB s f = rb * ((1000 - soc) * 10) / 1000)) ∧
    (s.role = .traction →
      derivedA s f = ra ∧
      (s.items.traction.fadeSpeed ≤ s.speed .c0 → derivedB s f = bound) ∧
      (s.speed .c0 < s.items.traction.fadeSpeed → derivedB s f = bound * s.speed .c0 / s.items.traction.fadeSpeed) ∧
      (s.speed .c0 = 0 → derivedB s f = 0))) ∧
  ∀ s : State, s.engine.list = none →
    (s.ready.state = .starting → s.items.entryStart = none →
      ∃ t : State,
        exec .noEntryListReady s = .next t ∧ t.ready.factor = limitFactor s ∧
        t.ready.state = (if limitFactor s < 1000 then .derated else .ready) ∧
        t.ready.limitA = (if s.outputs.a.inShutdown then 0 else derivedA s (limitFactor s)) ∧
        t.ready.limitB = (if s.outputs.a.inShutdown then 0 else derivedB s (limitFactor s)) ∧
        (s.role = .genset → t.ready.startRetries = 0 ∧ t.ready.onCount = 0) ∧ t.ready.causes = s.ready.causes ∧
        t.roles.demand.result = 0 ∧ t.roles.demand.rampBase = 0 ∧ TouchesReadiness s t) ∧
    (s.ready.state = .stopping → s.items.exitStart = none →
      ∃ t : State,
        exec .noExitListStop s = .next t ∧
        t.ready.state = (match s.ready.stopDest with | .offline => .offline | .standby => .standby) ∧
        t.ready.limitA = 0 ∧ t.ready.limitB = 0 ∧ (s.ready.stopDest = .offline → t.ready.startRetries = 0) ∧
        (s.ready.stopDest = .standby → t.ready.offCount = 0) ∧ t.ready.causes = s.ready.causes ∧ TouchesReadiness s t)

/-- A generator set in STANDBY with the request ON and both waits elapsed goes to STARTING and counts one start; one in READY or DERATED with the request OFF and the minimum on time elapsed goes to STOPPING toward STANDBY; with the request the other way the rows change no more than the inputs, which is the model's reading of a row given alone (R78, R79, R182; notes/assumptions/4.md). That the demand result and the ramp base are zeroed at once is DEDUCED (notes/assumptions/48.md). Stated for the passages without a list and for a list that begins with a PAUSE, which starts at once (R86, R87). -/
def Obligations.GeneratorSetStartsAndStops : Prop :=
  ∀ (inputs : BitVec 4) (s : State), s.role = .genset →
    (s.ready.state = .standby → s.roles.genset.request = true → s.items.minOff ≤ s.ready.offCount →
      s.items.retryGap ≤ s.ready.gapCount → s.items.entryStart = none →
      ∃ t : State,
        exec (.gensetStart inputs) s = .next t ∧ t.ready.state = .starting ∧
        (∀ (i : Fin 12) (r : WearRecord), s.wear.slots[i] = some r → r.kind = .starts → r.value < Config.wearTop →
          ∃ u, t.wear.slots[i] = some u ∧ u.kind = .starts ∧ u.value = r.value + 1) ∧
        t.items = s.items ∧ t.round = s.round ∧ t.peers = s.peers ∧ t.share = s.share ∧ t.engine = s.engine ∧
        t.wheel = s.wheel ∧ t.capture = s.capture ∧ t.port = s.port) ∧
    ((s.ready.state = .ready ∨ s.ready.state = .derated) → s.roles.genset.request = false →
      s.items.minOn ≤ s.ready.onCount → s.items.exitStart = none →
      ∃ t : State,
        exec (.gensetStop inputs) s = .next t ∧ t.ready.state = .stopping ∧ t.ready.stopDest = .standby ∧
        t.ready.limitA = 0 ∧ t.ready.limitB = 0 ∧
        (t.outputs.a.pin = .running → s.share.link.left = 0 → s.link.state ≠ .isolated → t.outputs.a.active = restDuty s) ∧
        TouchesReadiness { s with pins := { s.pins with inputs } } t) ∧
    (∀ (i : Fin 64) (k : Nat), s.ready.state = .standby → s.roles.genset.request = true → s.items.minOff ≤ s.ready.offCount →
      s.items.retryGap ≤ s.ready.gapCount → s.items.entryStart = some i → s.engine.memory[i] = .pause k →
      ∃ t : State,
        exec (.gensetStart inputs) s = .next t ∧ t.ready.state = .starting ∧ BegunWithPause .entry i k s t ∧
        t.items = s.items ∧ t.round = s.round ∧ t.peers = s.peers ∧ t.share = s.share ∧ t.wheel = s.wheel ∧
        t.capture = s.capture ∧ t.port = s.port) ∧
    (∀ (i : Fin 64) (k : Nat), s.ready.state = .ready ∨ s.ready.state = .derated → s.roles.genset.request = false →
      s.items.minOn ≤ s.ready.onCount → s.items.exitStart = some i → s.engine.memory[i] = .pause k →
      ∃ t : State,
        exec (.gensetStop inputs) s = .next t ∧ t.ready.state = .stopping ∧ t.ready.stopDest = .standby ∧
        t.ready.limitA = 0 ∧ t.ready.limitB = 0 ∧ BegunWithPause .exit i k s t ∧
        t.items = s.items ∧ t.round = s.round ∧ t.peers = s.peers ∧ t.share = s.share ∧ t.link = s.link ∧ t.wheel = s.wheel ∧
        t.capture = s.capture ∧ t.port = s.port ∧ KeepsRecords s t) ∧
    (s.roles.genset.request = false → exec (.gensetStart inputs) s = .next { s with pins := { s.pins with inputs } }) ∧
    (s.roles.genset.request = true → exec (.gensetStop inputs) s = .next { s with pins := { s.pins with inputs } })

/-- The derate curve (R82): 1000 without points, the end factors beyond the ends, each point's own factor, the truncated interpolation between two points, and always within 0 to 1000. -/
def Obligations.CurveInterpolatesItsPoints : Prop :=
  ∀ (points : List CurvePoint) (x : Int), ascending points = true → (∀ q ∈ points, q.f ≤ 1000) →
    (points = [] → curveFactor points x = 1000) ∧
    (∀ p, points.head? = some p → x < p.x → curveFactor points x = p.f) ∧
    (∀ p, points.getLast? = some p → p.x < x → curveFactor points x = p.f) ∧
    (∀ p ∈ points, p.x = x → curveFactor points x = p.f) ∧
    (∀ (i : Nat) (p q : CurvePoint), points[i]? = some p → points[i + 1]? = some q → p.x < x → x < q.x →
      curveFactor points x = p.f + (((q.f : Int) - p.f) * (x - p.x)).tdiv (q.x - p.x)) ∧
    0 ≤ curveFactor points x ∧ curveFactor points x ≤ 1000

/-! ## Measurement (R97 to R112, R156, R157) -/

/-- The raw count of an input: 0 at ground and below, 1023 at the 5 V supply and above, and one of 1024 equal steps between (R98; levels are in µV, and which end of a step belongs to it is the model's, notes/assumptions/10.md). A conversion scales the raw count into the channel's latest value, seeds or steps its filter toward that value and never past it, and leaves the other channels; at an IDLE position nothing is converted (R97, R98, R99). That it acts at the position it names, wherever the wheel stands, and moves the wheel past that one, is the model's (notes/assumptions/42.md). -/
def Obligations.ConversionScalesAndFilters : Prop :=
  (∀ level : Int,
    (level ≤ 0 → rawCount level = 0#10) ∧ (5000000 ≤ level → rawCount level = 1023#10) ∧
    (0 ≤ level → level < 5000000 →
      (rawCount level).toNat * 5000000 ≤ level * 1024 ∧ level * 1024 < ((rawCount level).toNat + 1) * 5000000)) ∧
  ∀ (position : Fin 8) (level : Int) (s : State),
    (s.wheel.map[position] = none →
      exec (.conversion position level) s =
        .next { s with wheel := { s.wheel with position := position + 1, elapsed := 0 } }) ∧
    (∀ c : Fin 4, s.wheel.map[position] = some c →
      ∃ t : State,
        exec (.conversion position level) s = .next t ∧
        t.wheel.channels[c].latest =
          bring (-32768) 32767 ((((rawCount level).toNat : Int) * s.items.channels[c].gain).tdiv 1024 + s.items.channels[c].offset) ∧
        t.wheel.channels[c].seed = false ∧
        (s.wheel.channels[c].seed = true → t.wheel.channels[c].filtered = t.wheel.channels[c].latest) ∧
        (s.wheel.channels[c].seed = false →
          t.wheel.channels[c].filtered =
            s.wheel.channels[c].filtered +
              (t.wheel.channels[c].latest - s.wheel.channels[c].filtered).tdiv (2 ^ s.items.channels[c].shift)) ∧
        (s.wheel.channels[c].filtered ≤ t.wheel.channels[c].latest →
          t.wheel.channels[c].filtered ≤ t.wheel.channels[c].latest) ∧
        (t.wheel.channels[c].latest ≤ s.wheel.channels[c].filtered →
          t.wheel.channels[c].latest ≤ t.wheel.channels[c].filtered) ∧
        (∀ d : Fin 4, d ≠ c → t.wheel.channels[d] = s.wheel.channels[d]) ∧ t.wheel.position = position + 1 ∧
        t =
          { s with
            pins := { s.pins with analog := alter s.pins.analog c fun _ => level }
            wheel := { s.wheel with channels := t.wheel.channels, position := t.wheel.position, elapsed := 0 } })

/-- The measurement event evaluates and empties the capture FIFOs, judges the window monitors, begins a new turn of the wheel under the map as it is loaded (notes/assumptions/29.md), forms the role's figures and takes the temperature readings, and touches neither the rounds, the peers, the share nor step memory (R97, R100, R101, R106, R113, R142, R148, R166, R178, R185). -/
def Obligations.MeasurementEventHandsOnItsFigures : Prop :=
  ∀ s : State,
    ∃ t : State,
      exec .measurementEvent s = .next t ∧
      (∀ n : CapName, (s.items.capture n).mode ≠ .demodulate →
        (t.capture.get n).fifo = [] ∧ (t.capture.get n).overflow = false ∧
        (t.capture.get n).edges = (s.capture.get n).edges ∧ (t.capture.get n).timer = (s.capture.get n).timer ∧
        (∀ x, (s.capture.get n).fifo.getLast? = some x → (t.capture.get n).reference = some x) ∧
        ((s.capture.get n).fifo = [] →
          (t.capture.get n).reference = (s.capture.get n).reference ∧ (t.capture.get n).speed = (s.capture.get n).speed) ∧
        ((s.capture.get n).overflow = true → (t.capture.get n).speed = (s.capture.get n).speed) ∧
        (∀ x r, (s.capture.get n).overflow = false → (s.capture.get n).fifo = [x] → (s.capture.get n).reference = some r →
          (t.capture.get n).speed = speedOver (s.items.capture n) (edgesPerCapture (s.items.capture n).mode) (x - r).toNat) ∧
        (∀ x r z, (s.capture.get n).overflow = false → (s.capture.get n).fifo.head? = some x →
          (s.capture.get n).fifo.getLast? = some z → (s.capture.get n).reference = some r →
          (t.capture.get n).speed =
            speedOver (s.items.capture n) ((s.capture.get n).fifo.length * edgesPerCapture (s.items.capture n).mode) (z - r).toNat) ∧
        (∀ x, (s.capture.get n).fifo = [x] → (s.capture.get n).reference = none →
          (t.capture.get n).speed = (s.capture.get n).speed) ∧
        (∀ x z, (s.capture.get n).overflow = false → 2 ≤ (s.capture.get n).fifo.length → (s.capture.get n).fifo.head? = some x →
          (s.capture.get n).fifo.getLast? = some z → (s.capture.get n).reference = none →
          (t.capture.get n).speed =
            speedOver (s.items.capture n) (((s.capture.get n).fifo.length - 1) * edgesPerCapture (s.items.capture n).mode)
              (z - x).toNat)) ∧
      (∀ n : CapName, (s.items.capture n).mode = .demodulate → t.capture.get n = s.capture.get n) ∧
      t.capture.demod = s.capture.demod ∧ t.capture.micros = s.capture.micros ∧
      (∀ (m : Fin 2) (c : Fin 4), s.items.monitors[m].channel = some c →
        let inside := s.items.monitors[m].low ≤ s.filtered c ∧ s.filtered c ≤ s.items.monitors[m].high
        let k := s.wheel.monitors[m]
        t.wheel.monitors[m] =
          if k.tripped = decide inside then
            (if s.items.monitors[m].count ≤ k.run + 1 then { tripped := !k.tripped, run := 0 } else { k with run := k.run + 1 })
          else { k with run := 0 }) ∧
      (∀ m : Fin 2, s.items.monitors[m].channel = none → t.wheel.monitors[m] = s.wheel.monitors[m]) ∧
      t.wheel.channels = s.wheel.channels ∧ t.wheel.position = 0 ∧ t.wheel.map = s.items.map ∧
      t.items = s.items ∧ t.pins = s.pins ∧ t.round = s.round ∧ t.peers = s.peers ∧ t.share = s.share ∧
      t.engine.memory = s.engine.memory ∧ t.link.state = s.link.state ∧ t.port = s.port ∧ t.pending = s.pending ∧
      (s.role = .demand → t.roles.demand.aux = t.speed .c0) ∧
      (s.role = .genset →
        t.roles.genset.aux = t.speed .c0 ∧
        t.roles.genset.actual = bring (-6000) 6000 ((s.filtered 3 * s.filtered 0).tdiv 10000)) ∧
      (s.role = .traction →
        t.roles.traction.aux = t.speed .c0 ∧
        t.roles.traction.actual = bring (-6000) 6000 ((s.filtered 3 * s.filtered 0).tdiv 10000)) ∧
      (s.role = .friction →
        t.roles.friction.thicknessAbsent = s.capture.demod.absent ∧
        t.roles.friction.thickness =
          if s.capture.demod.absent then s.roles.friction.thickness
          else
            s.items.friction.thickness0 +
              (((s.items.friction.thickness1000 : Int) - s.items.friction.thickness0) * s.capture.demod.duty).tdiv 1000) ∧
      (∀ (i : Fin 12) (r : WearRecord), s.wear.slots[i] = some r →
        r.kind = .coolantTemp ∨ r.kind = .packTemp ∨ r.kind = .motorTemp →
        ∃ u, t.wear.slots[i] = some u ∧ u.kind = r.kind ∧ u.value = s.filtered 1)

/-- No charge is lost at a PACK node's count: the measurement event moves the charge by the current and its carried tenths exactly, unless the clamp acts, and the SOC is formed anew (R156, R157). -/
def Obligations.PackCountsItsCharge : Prop :=
  ∀ s : State, s.role = .pack → s.locked = true →
    let current := s.wheel.channels[0].latest
    let q := (current + s.roles.pack.remainder).tdiv 10
    ∃ t : State,
      exec .measurementEvent s = .next t ∧
      (0 ≤ (s.roles.pack.charge : Int) - q → (s.roles.pack.charge : Int) - q ≤ capacityMas s.items →
        10 * ((s.roles.pack.charge : Int) - t.roles.pack.charge) + t.roles.pack.remainder = current + s.roles.pack.remainder ∧
        -9 ≤ t.roles.pack.remainder ∧ t.roles.pack.remainder ≤ 9) ∧
      ((s.roles.pack.charge : Int) - q < 0 → t.roles.pack.charge = 0 ∧ t.roles.pack.remainder = 0) ∧
      ((capacityMas s.items : Int) < s.roles.pack.charge - q →
        t.roles.pack.charge = capacityMas s.items ∧ t.roles.pack.remainder = 0) ∧
      t.roles.pack.soc = t.roles.pack.charge * 1000 / capacityMas s.items ∧
      t.roles.pack.actual = bring (-6000) 6000 ((s.filtered 2 * s.filtered 0).tdiv 10000)

/-- A rising edge counts toward a capture; a capture joins the FIFO or, finding it full, is discarded with CAPTURE attention, and restarts the zero-speed timer, whose expiry sets the speed to 0 and drops the reference; in DEMODULATE the edges of C1 form a duty over each complete period and restart the absence timer, whose expiry sets the absent mark and keeps the duty. Where a capture or an edge finds its timer run out and restarts it, the expiry that was due does not come (R104, R105, R108, R110, R111; the marks of such expiries are the model's, notes/assumptions/37.md). -/
def Obligations.EdgesFormSpeedAndDuty : Prop :=
  (∀ (n : CapName) (s : State),
      ((s.items.capture n).mode ≠ .demodulate →
        ∃ t : State,
          exec (.risingEdge n) s = .next t ∧
          ((s.capture.get n).edges + 1 < edgesPerCapture (s.items.capture n).mode →
            t.capture.get n = { s.capture.get n with edges := (s.capture.get n).edges + 1 } ∧ t.attention = s.attention) ∧
          (edgesPerCapture (s.items.capture n).mode ≤ (s.capture.get n).edges + 1 → (s.capture.get n).fifo.length < 4 →
            t.capture.get n =
              { s.capture.get n with
                edges := 0, fifo := (s.capture.get n).fifo ++ [s.capture.micros],
                timer := some ((s.items.capture n).timeoutMs * 1000)
                struck := (s.capture.get n).struck || decide ((s.capture.get n).timer = some 0) } ∧ t.attention = s.attention) ∧
          (edgesPerCapture (s.items.capture n).mode ≤ (s.capture.get n).edges + 1 → 4 ≤ (s.capture.get n).fifo.length →
            t.capture.get n =
              { s.capture.get n with
                edges := 0, overflow := true, timer := some ((s.items.capture n).timeoutMs * 1000)
                struck := (s.capture.get n).struck || decide ((s.capture.get n).timer = some 0) } ∧
            t.attention = { s.attention with pending := s.attention.pending ||| attnMask .capture }) ∧
          t = { s with capture := s.capture.put n (t.capture.get n), attention := t.attention }) ∧
      ((s.capture.get n).struck = true →
        exec (.zeroSpeedExpiry n) s =
          .next { s with capture := s.capture.put n { s.capture.get n with struck := false } }) ∧
      (∀ k, (s.capture.get n).timer = some k → (s.capture.get n).struck = false →
        exec (.zeroSpeedExpiry n) s =
          .next
            { s with capture := s.capture.put n { s.capture.get n with speed := 0, reference := none, timer := none } })) ∧
  (∀ s : State, s.items.capture1.mode = .demodulate →
      (∃ t : State,
        exec (.demodulationEdge true) s = .next t ∧ t = { s with capture := { s.capture with demod := t.capture.demod } } ∧
        t.capture.demod.rising = some s.capture.micros ∧ t.capture.demod.high = none ∧
        t.capture.demod.timer = some (3 * s.items.nominal) ∧
        t.capture.demod.struck = (s.capture.demod.struck || decide (s.capture.demod.timer = some 0)) ∧
        (∀ r h, s.capture.demod.rising = some r → s.capture.demod.high = some h → s.capture.micros ≠ r →
          t.capture.demod.duty = min 1000 (h.toNat * 1000 / (s.capture.micros - r).toNat) ∧ t.capture.demod.absent = false) ∧
        (s.capture.demod.rising = none ∨ s.capture.demod.high = none ∨ s.capture.demod.rising = some s.capture.micros →
          t.capture.demod.duty = s.capture.demod.duty ∧ t.capture.demod.absent = s.capture.demod.absent)) ∧
      (∃ t : State,
        exec (.demodulationEdge false) s = .next t ∧
        t =
          { s with
            capture :=
              { s.capture with
                demod :=
                  { s.capture.demod with
                    high := t.capture.demod.high, timer := some (3 * s.items.nominal)
                    struck := s.capture.demod.struck || decide (s.capture.demod.timer = some 0) } } } ∧
        (∀ r, s.capture.demod.rising = some r → t.capture.demod.high = some (s.capture.micros - r)) ∧
        (s.capture.demod.rising = none → t.capture.demod.high = s.capture.demod.high)) ∧
      (s.capture.demod.struck = true →
        exec .absenceTimerExpiry s =
          .next { s with capture := { s.capture with demod := { s.capture.demod with struck := false } } }) ∧
      (∀ k, s.capture.demod.timer = some k → s.capture.demod.struck = false →
        exec .absenceTimerExpiry s =
          .next
            { s with
              capture :=
                { s.capture with
                  demod := { s.capture.demod with rising := none, high := none, absent := true, timer := none } } }))

/-! ## Command outputs and shutdown (R115 to R126) -/

/-- At its period end an output not in shutdown makes its pending duty, or output A's rest duty under the gate, active; one in shutdown leaves it when its source shutdown state is NONE, or AUTOMATIC with every enabled source inactive, and its reset hold clear, and otherwise stays; an entry that is pending is made; the leaving of output A derives the limits anew (R115, R116, R117, R119, R121, R124). -/
def Obligations.PeriodEndUpdatesTheOutput : Prop :=
  (∀ (n : OutName) (s : State),
      (s.outputs.get n).inShutdown = false → (s.outputs.get n).source = .none → s.ready.state ≠ .faulted →
      ∃ t : State,
        exec (.periodEnd n) s = .next t ∧
        t.outputs.get n =
          { s.outputs.get n with
            active :=
              if n = .a ∧ gateHolds s = true then restDuty s else (s.outputs.get n).pending
            pin := .running, period := (s.items.output n).period, elapsed := 0 } ∧
        t = { s with outputs := s.outputs.put n (t.outputs.get n) }) ∧
  (∀ (n : OutName) (s : State), (s.outputs.get n).inShutdown = true → s.ready.state ≠ .faulted →
      ((s.outputs.get n).resetHold = false →
        (s.outputs.get n).source = .none ∨ ((s.outputs.get n).source = .automatic ∧ enabledActive s n = false) →
        ∃ t : State,
          exec (.periodEnd n) s = .next t ∧ (t.outputs.get n).inShutdown = false ∧ (t.outputs.get n).source = .none ∧
          (t.outputs.get n).pin = .running ∧
          (t.outputs.get n).active = (if n = .a ∧ gateHolds s = true then restDuty s else (s.outputs.get n).pending) ∧
          (n = .a → s.available = true →
            t.ready.factor = limitFactor s ∧ t.ready.limitA = derivedA s (limitFactor s) ∧
            t.ready.limitB = derivedB s (limitFactor s)) ∧
          (n = .b → t.ready = s.ready) ∧ t.attention = s.attention ∧ t.items = s.items ∧ t.share = s.share ∧ t.link = s.link) ∧
      ((s.outputs.get n).source = .latched ∨ ((s.outputs.get n).source = .automatic ∧ enabledActive s n = true) ∨
          ((s.outputs.get n).source = .none ∧ (s.outputs.get n).resetHold = true) →
        exec (.periodEnd n) s =
          .next
            { s with
              outputs :=
                s.outputs.put n { s.outputs.get n with period := (s.items.output n).period, elapsed := 0 } })) ∧
  (∀ (n : OutName) (s : State), (s.outputs.get n).source = .entryPending →
    ∃ t : State,
      exec (.periodEnd n) s = .next t ∧ (t.outputs.get n).inShutdown = true ∧ (t.outputs.get n).pin = .shutdown ∧
      (t.outputs.get n).source = (match (s.items.output n).restart with | .automatic => .automatic | .latched => .latched) ∧
      (t.outputs.get n).elapsed = 0 ∧ (t.outputs.get n).period = (s.items.output n).period ∧
      isPending t .shutdown = true ∧ t.outputs.snapshot.isSome = true ∧
      (n = .a → t.ready.limitA = 0 ∧ t.ready.limitB = 0) ∧ (n = .b → t.ready = s.ready) ∧
      t.items = s.items ∧ t.share = s.share ∧ t.round = s.round)

/-- A shutdown line that turns active and is enabled at an output in NONE with entry mode IMMEDIATE makes an entry there: the pin takes its shutdown state, the snapshot is frozen if it was empty, SHUTDOWN attention is raised; at output A the limits become 0 and a latch takes a locked node to FAULTED. With entry mode AT PERIOD END the entry is pending; an output that is pending, latched, or in automatic shutdown with restart mode AUTOMATIC is left as it stands. One in automatic shutdown with restart mode LATCHED becomes latched at once, which is no new entry (R118, R119, R120, R122, R126). Which bit of an enable mask names the line is the model's (notes/assumptions/60.md). -/
def Obligations.ActiveLineShutsTheOutputDown : Prop :=
  (∀ (l : Fin 4) (level : Bool) (n : OutName) (s : State),
    s.pins.lines.getLsbD l.val ≠ level → s.items.lines[l].activeHigh = level → s.items.lines[l].cease = none →
    (s.items.output n).enable.getLsbD l.val = true →
    (∀ m, m ≠ n → (s.items.output m).enable.getLsbD l.val = false) →
    (s.outputs.get n).source = .none → (s.items.output n).entry = .immediate →
    ∃ t : State,
      exec (.shutdownLineChange l level) s = .next t ∧ t.pins.lines.getLsbD l.val = level ∧
      (∀ k : Fin 4, k ≠ l → t.pins.lines.getLsbD k.val = s.pins.lines.getLsbD k.val) ∧
      (t.outputs.get n).inShutdown = true ∧ (t.outputs.get n).pin = .shutdown ∧
      (t.outputs.get n).source = (match (s.items.output n).restart with | .automatic => .automatic | .latched => .latched) ∧
      isPending t .shutdown = true ∧
      (∀ x, s.outputs.snapshot = some x → t.outputs.snapshot = some x) ∧
      (s.outputs.snapshot = none →
        ∃ x, t.outputs.snapshot = some x ∧ x.round = s.round.count ∧ x.output = n ∧ x.readiness = s.ready.state ∧
          x.activeA = s.outputs.a.active ∧ x.activeB = s.outputs.b.active ∧
          x.ownGrant = s.share.plan.map (·.ownGrant) ∧ x.sources.getLsbD l.val = true) ∧
      (n = .a → t.ready.limitA = 0 ∧ t.ready.limitB = 0) ∧ (n = .b → t.ready = s.ready) ∧
      (n = .a → (s.items.output n).restart = .latched → s.locked = true →
        t.ready.state = .faulted ∧ t.ready.causes = { s.ready.causes with shutdown := true }) ∧
      t.share = s.share ∧ t.link = s.link ∧ t.items = s.items ∧ t.round = s.round ∧ t.peers = s.peers ∧
      t.engine.memory = s.engine.memory ∧ t.wheel = s.wheel ∧ t.capture = s.capture ∧ t.port = s.port) ∧
  (∀ (l : Fin 4) (level : Bool) (n : OutName) (s : State),
    s.pins.lines.getLsbD l.val ≠ level → s.items.lines[l].activeHigh = level → s.items.lines[l].cease = none →
    (s.items.output n).enable.getLsbD l.val = true →
    (∀ m, m ≠ n → (s.items.output m).enable.getLsbD l.val = false) →
    ∃ t : State,
      exec (.shutdownLineChange l level) s = .next t ∧ t.pins.lines.getLsbD l.val = level ∧
      ((s.outputs.get n).source = .none → (s.items.output n).entry = .atPeriodEnd →
        t =
          { s with
            pins := { s.pins with lines := t.pins.lines }
            outputs := s.outputs.put n { s.outputs.get n with source := .entryPending } }) ∧
      ((s.outputs.get n).source = .entryPending ∨ (s.outputs.get n).source = .latched ∨
          ((s.outputs.get n).source = .automatic ∧ (s.items.output n).restart = .automatic) →
        t = { s with pins := { s.pins with lines := t.pins.lines } }) ∧
      ((s.outputs.get n).source = .automatic → (s.items.output n).restart = .latched →
        (t.outputs.get n).source = .latched ∧ (t.outputs.get n).inShutdown = (s.outputs.get n).inShutdown ∧
        t.outputs.snapshot = s.outputs.snapshot ∧ isPending t .shutdown = isPending s .shutdown ∧
        (n = .b ∨ s.locked = false →
          t =
            { s with
              pins := { s.pins with lines := t.pins.lines }
              outputs := s.outputs.put n { s.outputs.get n with source := .latched } }) ∧
        (n = .a → s.locked = true →
          t.ready.state = .faulted ∧ t.ready.causes = { s.ready.causes with shutdown := true })))

/-- A cease source that turns active opens the node's own window and, while the link is ACTIVE, places a CEASE frame with the full duration; a line change that activates nothing changes the pin alone (R118, R128). Which bit of an enable mask names the line is the model's (notes/assumptions/60.md). -/
def Obligations.CeaseTripOpensTheWindow : Prop :=
  ∀ (l : Fin 4) (level : Bool) (s : State),
    (∀ k, s.pins.lines.getLsbD l.val ≠ level → s.items.lines[l].activeHigh = level → s.items.lines[l].cease = some k →
      s.items.outputA.enable.getLsbD l.val = false → s.items.outputB.enable.getLsbD l.val = false →
      ∃ t : State,
        exec (.shutdownLineChange l level) s = .next t ∧
        windowOf t k =
          (if (windowOf s k).left < s.items.lines[l].duration then
            { left := s.items.lines[l].duration, setter := some (s.self, l) }
          else windowOf s k) ∧
        (∀ j, j ≠ k → windowOf t j = windowOf s j) ∧
        (s.link.state = .active →
          t.link.ceaseLeft = s.items.lines[l].duration ∧
          t.link.outbox.cease =
            some
              { payload := ceasePayload k s.items.lines[l].duration l, retries := 0, probe := false, waiting := false }) ∧
        (s.link.state ≠ .active → t.link = s.link) ∧ t.ready = s.ready ∧ t.peers = s.peers ∧ t.round = s.round ∧
        t.items = s.items ∧ t.engine = s.engine ∧ t.wheel = s.wheel ∧ t.port = s.port) ∧
    ((s.items.lines[l].activeHigh ≠ level ∨ s.pins.lines.getLsbD l.val = level) →
      ∃ t : State,
        exec (.shutdownLineChange l level) s = .next t ∧ t.pins.lines.getLsbD l.val = level ∧
        (∀ k : Fin 4, k ≠ l → t.pins.lines.getLsbD k.val = s.pins.lines.getLsbD k.val) ∧
        t = { s with pins := { s.pins with lines := t.pins.lines } })

/-! ## The local port (R196 to R201) -/

/-- The bytes of an exchange spell the command of their code with its arguments, or a short exchange where arguments are missing, or a code that names no command (R196, R198). The answer point of every command of the port judges it, clocks out the reply with the SHORT and WITHDRAWN marks and clears them, sends zeros for a refused command, and changes nothing but the port; in a select period that a reset cut it replies nothing and leaves the port waiting (R196, R197). That an answer point in a select period already past one supersedes it is the model's (notes/assumptions/6.md). -/
def Obligations.AnswerPointTouchesThePortOnly : Prop :=
  (∀ (inputs : BitVec 4) (code : Byte) (arguments rest : List Byte), 1 ≤ code.toNat → code.toNat ≤ 25 →
    arguments.length = argumentSize code.toNat →
    ∃ q : Request,
      requestOf (exchangeCommand inputs (code :: arguments ++ rest)) = some (.whole, q) ∧ q.code = code.toNat ∧
      q.argument = argumentOf arguments) ∧
  (∀ (inputs : BitVec 4) (code : Byte) (arguments : List Byte),
    exchangeCommand inputs [] = .shortExchange ∧
    (arguments.length < argumentSize code.toNat → exchangeCommand inputs (code :: arguments) = .shortExchange) ∧
    (code.toNat = 0 ∨ 25 < code.toNat → exchangeCommand inputs (code :: arguments) = .unknownCommand .whole code)) ∧
  ∀ (c : Instr) (q : Request) (s : State), requestOf c = some (.answer, q) →
    let u : State := { s with pins := { s.pins with inputs := inputsAt s c } }
    (s.port.select = .void → exec c s = .next u) ∧
    (s.port.select ≠ .void → ∃ t : State,
      exec c s = .next t ∧ t = { u with port := t.port } ∧
      (∃ e, t.port.select = .answered e ∧ e.code = q.code ∧ e.argument = q.argument ∧ e.reply = q.judge u) ∧
      (t.port.reply.extractLsb' 0 4).toNat = replyCode (q.judge u) ∧ t.port.reply.extractLsb' 4 2 = 0#2 ∧
      t.port.reply.getLsbD 6 = s.port.short ∧ t.port.reply.getLsbD 7 = s.port.withdrawn ∧
      t.port.short = false ∧ t.port.withdrawn = false ∧ t.port.lastOutcome = s.port.lastOutcome ∧
      (8 ≤ replyCode (q.judge u) → t.port.answer = List.replicate (q.answer u).length 0) ∧
      (replyCode (q.judge u) < 8 → t.port.answer = q.answer u))

/-- A deselect: a command refused at its answer point is not carried out; one that its second judgement refuses is withdrawn, with the second reason as the outcome; one that comes before an answer point ends a short exchange; a code that names no command is refused with RANGE; select that is asserted opens a period, which a reset that cuts it makes no exchange (R196, R197). That a deselect without its own answer point is a short exchange is the model's reading (notes/assumptions/6.md). -/
def Obligations.DeselectCarriesOutWhatStillStands : Prop :=
  (∀ (c : Instr) (q : Request) (s : State), requestOf c = some (.deselect, q) →
      let u : State := { s with pins := { s.pins with inputs := inputsAt s c } }
      (∀ e, s.port.select = .answered e → e.code = q.code → e.argument = q.argument → 8 ≤ replyCode e.reply →
        exec c s = .next { u with port := { s.port with select := .waiting, lastOutcome := some e.reply } }) ∧
      (∀ e, s.port.select = .answered e → e.code = q.code → e.argument = q.argument → replyCode e.reply < 8 →
        e.reply ≠ .empty → 8 ≤ replyCode (q.judge u) →
        exec c s =
          .next { u with port := { s.port with select := .waiting, withdrawn := true, lastOutcome := some (q.judge u) } }) ∧
      (∀ e, s.port.select = .answered e → e.code = q.code → e.argument = q.argument → replyCode e.reply < 8 →
        e.reply ≠ .empty → replyCode (q.judge u) < 8 →
        exec c s =
          .next (q.effect e { u with port := { s.port with select := .waiting, lastOutcome := some (q.judge u) } })) ∧
      (s.port.select = .waiting ∨ s.port.select = .opened →
        exec c s =
          .next { u with port := { s.port with select := .waiting, short := true, lastOutcome := some .length } }) ∧
      (s.port.select = .void → exec c s = .next { u with port := { s.port with select := .waiting } })) ∧
  (∀ (c : Instr) (q : Request) (straps : Straps) (lines inputs : BitVec 4) (s : State), requestOf c = some (.select, q) →
      ∃ t : State,
        exec c s = .next t ∧
        t = { s with pins := { s.pins with inputs := inputsAt s c }, port := { s.port with select := .opened } } ∧
        ∃ r : State,
          exec (.resetPin straps lines inputs) t = .next r ∧
          exec .shortExchange r = .next { r with port := { r.port with select := .waiting } } ∧
          ∀ (a : Instr) (p : Request), requestOf a = some (.answer, p) →
            exec a r = .next { r with pins := { r.pins with inputs := inputsAt r a } }) ∧
  ((∀ s : State, s.port.select ≠ .void →
      exec .shortExchange s =
        .next { s with port := { s.port with select := .waiting, short := true, lastOutcome := some .length } }) ∧
    (∀ (code : Byte) (s : State), code.toNat = 0 ∨ 25 < code.toNat →
      ∃ t : State,
        exec (.unknownCommand .whole code) s = .next t ∧ t = { s with port := t.port } ∧
        (t.port.reply.extractLsb' 0 4).toNat = 15 ∧ t.port.answer = [] ∧ t.port.lastOutcome = some .range ∧
        t.port.select = .waiting))

/-- LOAD ITEM of a plain numeric item in UNCONFIGURED brings the value into range, stores it and answers OK or CLAMPED, and touches no other item of the kind; after LOCK it is answered LOCKED and changes nothing but the port (R197, R199). The index byte, which these items do not use, may hold any value; that it is not looked at is the model's reading (notes/assumptions/13.md). -/
def Obligations.LoadItemStoresAPlainItem : Prop :=
  ∀ (item : BitVec 16) (index : Byte) (value : BitVec 32) (s : State),
    (∀ lo hi get, s.locked = false → plainItem item.toNat = some (lo, hi, get) →
      ∃ t : State,
        exec (.loadItem .whole item index value) s = .next t ∧ get t.items = bringNat lo hi value.toNat ∧
        lo ≤ get t.items ∧ get t.items ≤ hi ∧
        t.port.lastOutcome = some (if lo ≤ value.toNat ∧ value.toNat ≤ hi then .ok else .clamped) ∧
        (∀ other lo' hi' get', other ≠ item.toNat → plainItem other = some (lo', hi', get') → get' t.items = get' s.items) ∧
        t = { s with items := t.items, port := t.port }) ∧
    (s.locked = true →
      ∃ t : State,
        exec (.loadItem .whole item index value) s = .next t ∧ t = { s with port := t.port } ∧
        t.port.lastOutcome = some .locked)

/-- LOAD STEP in UNCONFIGURED stores the step that its operands name at its index and leaves every other step; an index above 63 is refused with RANGE; after LOCK it is answered LOCKED (R85, R199). The packing of the operands is the model's reading (notes/assumptions/9.md). -/
def Obligations.LoadStepStoresTheStep : Prop :=
  ∀ (index : Byte) (x : Machine.Step) (s : State), stepInRange x = true →
    (∀ i : Fin 64, s.locked = false → index.toNat = i.val →
      ∃ t : State,
        exec (.loadStep .whole index (packStep x).1 (packStep x).2) s = .next t ∧ t.engine.memory[i] = x ∧
        (∀ j : Fin 64, j ≠ i → t.engine.memory[j] = s.engine.memory[j]) ∧ t.port.lastOutcome = some .ok ∧
        t = { s with engine := { s.engine with memory := t.engine.memory }, port := t.port }) ∧
    (s.locked = false → 63 < index.toNat →
      ∃ t : State,
        exec (.loadStep .whole index (packStep x).1 (packStep x).2) s = .next t ∧ t = { s with port := t.port } ∧
        t.port.lastOutcome = some .range) ∧
    (s.locked = true →
      ∃ t : State,
        exec (.loadStep .whole index (packStep x).1 (packStep x).2) s = .next t ∧ t = { s with port := t.port } ∧
        t.port.lastOutcome = some .locked)

/-- Every step whose operands lie in their ranges is read back whole from the operand bytes that carry it, unclamped (R85, R199; the packing is the model's reading, notes/assumptions/9.md). -/
def Obligations.StepsReadBackAsPacked : Prop :=
  ∀ x : Machine.Step, stepInRange x = true → stepOf (packStep x).1 (packStep x).2 = (x, false)

/-- RESTORE WEAR in UNCONFIGURED loads the value of a RISING slot; SERVICE RESET zeroes value and carry of a RISING slot and stands it in CLEAR; SET ZONE sets and clears the quiet zone flag at a DEMAND node; SET CHARGE at a PACK node in OFFLINE loads the charge brought into the capacity (R141, R157, R160, R188, R189, R190). -/
def Obligations.WearSlotsZoneAndCharge : Prop :=
  (∀ (i : Fin 12) (r : WearRecord) (s : State), s.wear.slots[i] = some r → kindDirection r.kind = .rising →
      (∀ value : BitVec 32, s.locked = false →
        ∃ t : State,
          exec (.restoreWear .whole (BitVec.ofNat 8 i.val) value) s = .next t ∧
          t.wear.slots[i] = some { r with value := value.toNat, carry := 0 } ∧
          (∀ j : Fin 12, j ≠ i → t.wear.slots[j] = s.wear.slots[j]) ∧ t.port.lastOutcome = some .ok ∧
          t = { s with wear := { s.wear with slots := t.wear.slots }, port := t.port }) ∧
      (∃ t : State,
        exec (.serviceReset .whole (BitVec.ofNat 8 i.val)) s = .next t ∧
        t.wear.slots[i] =
          some
            { r with
              value := 0, carry := 0, state := .clear, stamp := if r.state = .clear then r.stamp else s.round.count } ∧
        (∀ j : Fin 12, j ≠ i → t.wear.slots[j] = s.wear.slots[j]) ∧ t.port.lastOutcome = some .ok ∧
        (r.state ≠ .clear → ∃ e ∈ t.wear.queue, e.source = .slot i ∧ e.level = .clear ∧ e.stamp = s.round.count) ∧
        t.items = s.items ∧ t.round = s.round ∧ t.peers = s.peers ∧ t.share = s.share ∧ t.engine = s.engine)) ∧
  ((∀ (on : Bool) (s : State), s.role = .demand →
      ∃ t, exec (.setZone .whole (if on then 1 else 0)) s = .next t ∧ t.port.lastOutcome = some .ok ∧
        t = { s with roles := { s.roles with demand := { s.roles.demand with quiet := on } }, port := t.port }) ∧
    (∀ (on : Byte) (s : State), s.role ≠ .demand →
      ∃ t, exec (.setZone .whole on) s = .next t ∧ t = { s with port := t.port } ∧ t.port.lastOutcome = some .wrongRole) ∧
    (∀ (charge : BitVec 32) (s : State),
      (s.role = .pack → s.ready.state = .offline →
        ∃ t : State, exec (.setCharge .whole charge) s = .next t ∧
          t.roles.pack.charge = min charge.toNat (capacityMas s.items) ∧ t.roles.pack.remainder = 0 ∧
          t.roles.pack.soc = t.roles.pack.charge * 1000 / capacityMas s.items ∧
          t.roles.pack.actual = s.roles.pack.actual ∧
          t.port.lastOutcome = some (if capacityMas s.items < charge.toNat then .clamped else .ok) ∧
          t.items = s.items ∧ t.round = s.round ∧ t.peers = s.peers ∧ t.share = s.share ∧ t.engine = s.engine ∧
          t.outputs = s.outputs ∧ t.ready.state = .offline) ∧
      (s.role ≠ .pack → ∃ t, exec (.setCharge .whole charge) s = .next t ∧ t = { s with port := t.port } ∧
        t.port.lastOutcome = some .wrongRole) ∧
      (s.role = .pack → s.ready.state ≠ .offline → ∃ t, exec (.setCharge .whole charge) s = .next t ∧
        t = { s with port := t.port } ∧ t.port.lastOutcome = some .wrongState)))

/-- LOCK: the first check that fails gives the refusal and nothing but the port changes; an accepted LOCK of a node without a held clash, latched output A or auto-engage leaves it OFFLINE with limits 0, the link ACTIVE, the first segment open, DISCORD judged for every record, and every wear record judged from CLEAR: one that leaves it bears the stamp of the round, stands in the warning queue and raises the report (R38, R71, R183, R190, R192, R200). -/
def Obligations.LockChecksAndLocks : Prop :=
  ∀ (inputs : BitVec 4) (s : State),
    let u : State := { s with pins := { s.pins with inputs } }
    (s.locked = true → ∃ t, exec (.lock .whole inputs) s = .next t ∧ t = { u with port := t.port } ∧
      t.port.lastOutcome = some .locked) ∧
    (s.locked = false → s.role = .none → ∃ t, exec (.lock .whole inputs) s = .next t ∧ t = { u with port := t.port } ∧
      t.port.lastOutcome = some .role) ∧
    (s.locked = false → s.role ≠ .none → ascending (curvePoints s.items) = false →
      ∃ t, exec (.lock .whole inputs) s = .next t ∧ t = { u with port := t.port } ∧ t.port.lastOutcome = some .curveOrder) ∧
    (s.locked = false → s.role ≠ .none → ascending (curvePoints s.items) = true → s.items.dutyHi ≤ s.items.dutyLo →
      ∃ t, exec (.lock .whole inputs) s = .next t ∧ t = { u with port := t.port } ∧ t.port.lastOutcome = some .range) ∧
    (s.locked = false → s.role ≠ .none → ascending (curvePoints s.items) = true → s.items.dutyLo < s.items.dutyHi →
      s.link.clashHeld = false → s.outputs.a.source ≠ .latched → s.items.autoEngage = false →
      ∃ t : State,
        exec (.lock .whole inputs) s = .next t ∧ t.ready.state = .offline ∧ t.ready.limitA = 0 ∧ t.ready.limitB = 0 ∧
        t.link.state = (if s.link.state = .silent then .active else s.link.state) ∧
        t.wear.segment = some s.capture.micros ∧ t.port.lastOutcome = some .ok ∧
        (∀ (i : Station) (g : StateGroup), i ≠ s.self → s.peers[i].present = true → s.peers[i].state = some g →
          t.peers[i].discord = decide (g.signature ≠ signatureOf s.items.sharing)) ∧
        (∀ (i : Fin 12) (r : WearRecord), s.wear.slots[i] = some r → r.state = .clear →
          (∃ x, t.wear.slots[i] = some x ∧ x.kind = r.kind ∧ x.value = r.value ∧ x.state = judgeRecord r ∧
            (s.wear.segment = none → x.carry = r.carry) ∧
            x.stamp = (if judgeRecord r = .clear then r.stamp else s.round.count)) ∧
          (judgeRecord r ≠ .clear →
            (∃ e ∈ t.wear.queue, e.source = .slot i ∧ e.level = judgeRecord r ∧ e.stamp = s.round.count) ∧
            t.wear.factor = wearFactor t.wear)) ∧
        t.items = s.items ∧ t.round = s.round ∧ t.share = s.share ∧ t.engine = s.engine ∧ t.wheel = s.wheel ∧
        t.capture = s.capture ∧ t.outputs.b = s.outputs.b ∧ t.pending = s.pending)

/-- ENGAGE in OFFLINE takes a generator set to STANDBY with both waits elapsed and any other role to STARTING with its ENTRY list begun at once; DISENGAGE takes STANDBY to OFFLINE, READY or DERATED to STOPPING toward OFFLINE with the EXIT list begun, STARTING to STOPPING with its list abandoned, and turns STOPPING toward OFFLINE; CLEAR FAULT takes FAULTED to OFFLINE once no CLASH and no latched output A remains (R71, R72, R75, R86, R95). Each completes whichever lists are configured; where a list begins, the passage is stated in full for one whose first step is a PAUSE. In every other state each is refused with WRONG STATE. That a change of readiness zeroes the demand result and the ramp base at once is DEDUCED (R140; notes/assumptions/48.md). -/
def Obligations.EngageDisengageClear : Prop :=
  ∀ (inputs : BitVec 4) (s : State),
    let engaged (t : State) : Prop := exec (.engage .whole inputs) s = .next t ∧ t.port.lastOutcome = some .ok
    let disengaged (t : State) : Prop := exec (.disengage .whole inputs) s = .next t ∧ t.port.lastOutcome = some .ok
    let around (t : State) : State := { s with pins := { s.pins with inputs }, port := t.port }
    let abandoned : State := { s with engine := { s.engine with pulses := Vector.ofFn fun _ => 0, holdsA := false } }
    (s.ready.state = .offline →
      (∃ t : State, engaged t ∧ KeepsBesidesLists s t) ∧
      (s.role = .genset →
        ∃ t : State,
          engaged t ∧ t.ready.state = .standby ∧ t.ready.offCount = s.items.minOff ∧ t.ready.gapCount = s.items.retryGap ∧
          t.ready.startRetries = 0 ∧ TouchesReadiness (around t) t) ∧
      (s.role ≠ .genset → s.items.entryStart = none →
        ∃ t : State, engaged t ∧ t.ready.state = .starting ∧ TouchesReadiness (around t) t) ∧
      (∀ (i : Fin 64) (k : Nat), s.role ≠ .genset → s.items.entryStart = some i → s.engine.memory[i] = .pause k →
        ∃ t : State,
          engaged t ∧ t.ready.state = .starting ∧ BegunWithPause .entry i k s t ∧
          TouchesReadiness { around t with engine := t.engine } t)) ∧
    (s.ready.state = .standby ∨ s.ready.state = .starting ∨ s.ready.state = .ready ∨ s.ready.state = .derated ∨
        s.ready.state = .stopping →
      ∃ t : State, disengaged t ∧ KeepsBesidesLists s t) ∧
    (s.ready.state = .standby →
      ∃ t : State,
        disengaged t ∧ t.ready.state = .offline ∧ t.ready.limitA = 0 ∧ t.ready.limitB = 0 ∧ TouchesReadiness (around t) t) ∧
    (s.ready.state = .ready ∨ s.ready.state = .derated →
      (s.items.exitStart = none →
        ∃ t : State,
          disengaged t ∧ t.ready.state = .stopping ∧ t.ready.stopDest = .offline ∧ t.ready.limitA = 0 ∧ t.ready.limitB = 0 ∧
          TouchesReadiness (around t) t) ∧
      (∀ (i : Fin 64) (k : Nat), s.items.exitStart = some i → s.engine.memory[i] = .pause k →
        ∃ t : State,
          disengaged t ∧ t.ready.state = .stopping ∧ t.ready.stopDest = .offline ∧ t.ready.limitA = 0 ∧ t.ready.limitB = 0 ∧
          BegunWithPause .exit i k s t ∧ TouchesReadiness { around t with engine := t.engine } t)) ∧
    (s.ready.state = .starting → s.engine.list = none → s.items.exitStart = none →
      ∃ t : State,
        disengaged t ∧ t.ready.state = .stopping ∧ t.ready.stopDest = .offline ∧ TouchesReadiness (around t) t) ∧
    (∀ name, s.ready.state = .starting → s.engine.list = some name → s.items.exitStart = none →
      ∃ t : State,
        exec (.disengage .whole inputs) s = .next t ∧ t.ready.state = .stopping ∧ t.ready.stopDest = .offline ∧
        t.engine.list = none ∧ isPending t .step = true ∧
        t.engine.outcome = some { list := name, verdict := .abandoned, cause := none, failStep := none } ∧
        t.outputs.lines = s.outputs.lines ∧ t.engine.memory = s.engine.memory ∧ t.items = s.items ∧ t.link = s.link ∧
        t.round = s.round ∧ t.peers = s.peers ∧ t.share = s.share ∧ t.wheel = s.wheel ∧ t.capture = s.capture ∧
        KeepsRecords s t) ∧
    (∀ (name : ListName) (i : Fin 64) (k : Nat), s.ready.state = .starting → s.engine.list = some name →
      s.items.exitStart = some i → s.engine.memory[i] = .pause k →
      ∃ t : State,
        disengaged t ∧ t.ready.state = .stopping ∧ t.ready.stopDest = .offline ∧ isPending t .step = true ∧
        BegunWithPause .exit i k abandoned t ∧ t.outputs.lines = s.outputs.lines) ∧
    (s.ready.state = .stopping →
      ∃ t, exec (.disengage .whole inputs) s = .next t ∧ t.port.lastOutcome = some .ok ∧
        t =
          { s with
            pins := { s.pins with inputs }, port := t.port, ready := { s.ready with stopDest := .offline } }) ∧
    (s.ready.state = .faulted → s.ready.causes.clash = false →
      s.ready.causes.shutdown = false ∨ s.outputs.a.source ≠ .latched →
      ∃ t : State,
        exec (.clearFault .whole) s = .next t ∧ t.port.lastOutcome = some .ok ∧ t.ready.state = .offline ∧
        t.ready.causes.any = false ∧ t.ready.startRetries = 0 ∧ t.ready.limitOverride = 1000 ∧
        TouchesReadiness { s with port := t.port } t) ∧
    (s.ready.state ≠ .offline →
      ∃ t, exec (.engage .whole inputs) s = .next t ∧
        t = { s with pins := { s.pins with inputs }, port := t.port } ∧ t.port.lastOutcome = some .wrongState) ∧
    (s.ready.state = .unconfigured ∨ s.ready.state = .offline ∨ s.ready.state = .faulted →
      ∃ t, exec (.disengage .whole inputs) s = .next t ∧
        t = { s with pins := { s.pins with inputs }, port := t.port } ∧ t.port.lastOutcome = some .wrongState) ∧
    (s.ready.state ≠ .faulted ∨ s.ready.causes.clash = true ∨
        (s.ready.causes.shutdown = true ∧ s.outputs.a.source = .latched) →
      ∃ t, exec (.clearFault .whole) s = .next t ∧ t = { s with port := t.port } ∧ t.port.lastOutcome = some .wrongState)

/-- SHUTDOWN on and off set the soft source, answer OK in every readiness state, are no trigger when the source stands so already, and act on an output as its enable mask says; RELEASE OUTPUT takes a LATCHED output whose enabled sources are inactive to AUTOMATIC and is refused otherwise (R119, R120, R123, R131). That bit 6 of an enable mask names the soft source is the model's (notes/assumptions/60.md). -/
def Obligations.SoftShutdownAndRelease : Prop :=
  (∀ (on : Bool) (s : State), s.outputs.soft = on →
    ∃ t, exec (.shutdown .whole (if on then 1 else 0)) s = .next t ∧ t = { s with port := t.port } ∧
      t.port.lastOutcome = some .ok) ∧
  (∀ s : State, s.outputs.soft = true →
    ∃ t, exec (.shutdown .whole 0) s = .next t ∧ t.port.lastOutcome = some .ok ∧
      t = { s with outputs := { s.outputs with soft := false }, port := t.port }) ∧
  (∀ s : State, s.outputs.soft = false →
    ∃ t : State, exec (.shutdown .whole 1) s = .next t ∧ t.outputs.soft = true ∧ t.port.lastOutcome = some .ok ∧
      (s.items.outputA.enable.getLsbD 6 = false → s.items.outputB.enable.getLsbD 6 = false →
        t = { s with outputs := { s.outputs with soft := true }, port := t.port }) ∧
      (∀ n : OutName, (s.items.output n).enable.getLsbD 6 = true → (s.outputs.get n).source = .none →
        (s.items.output n).entry = .immediate →
        (t.outputs.get n).inShutdown = true ∧ (t.outputs.get n).pin = .shutdown) ∧
      (∀ n : OutName, (s.items.output n).enable.getLsbD 6 = false → (t.outputs.get n).source = (s.outputs.get n).source) ∧
      t.items = s.items ∧ t.round = s.round ∧ t.peers = s.peers ∧ t.share = s.share ∧ t.engine.memory = s.engine.memory) ∧
  (∀ (n : OutName) (s : State),
    ((s.outputs.get n).source = .latched → enabledActive s n = false →
      ∃ t, exec (.releaseOutput .whole (match n with | .a => 0 | .b => 1)) s = .next t ∧ t.port.lastOutcome = some .ok ∧
        t = { s with outputs := s.outputs.put n { s.outputs.get n with source := .automatic }, port := t.port }) ∧
    ((s.outputs.get n).source ≠ .latched ∨ enabledActive s n = true →
      ∃ t, exec (.releaseOutput .whole (match n with | .a => 0 | .b => 1)) s = .next t ∧ t = { s with port := t.port } ∧
        t.port.lastOutcome = some .wrongState))

/-- The reading commands change nothing but the port. READ ATTENTION names the source both pending and enabled that none such outranks, by the group order and the within-group flags (R204), and the sets; READ STATUS begins with readiness, causes and link state; READ SHARE begins with the plan's mark and number; READ PEER answers a station's presence, READ WEAR a slot's kind, and both refuse a number outside their range (R41, R67, R180, R198, R201, R205). At a GENSET node the first of the four role bytes of READ STATUS is the generator request, ON 0 and OFF 1 (R147, R151, R198). The mark bytes and the lengths of the answers are the model's reading (notes/assumptions/7.md). -/
def Obligations.ReadingsChangeNothing : Prop :=
  ∀ s : State,
    (∀ a : Attn,
      namedSource s = some a ↔
        isRaised s a = true ∧ ∀ b : Attn, isRaised s b = true → attnRank s.items a ≤ attnRank s.items b) ∧
    (∃ t, exec (.readAttention .whole) s = .next t ∧ t = { s with port := t.port } ∧ t.port.lastOutcome = some .ok ∧
      t.port.answer =
        [match namedSource s with | none => 0 | some a => BitVec.ofNat 8 (attnBit a + 1), s.attention.pending.zeroExtend 8,
          s.attention.enable.zeroExtend 8, if s.attention.master then 1 else 0]) ∧
    (∃ t, exec (.readStatus .whole) s = .next t ∧ t = { s with port := t.port } ∧ t.port.lastOutcome = some .ok ∧
      t.port.answer.take 3 =
        [BitVec.ofNat 8 (readinessCode s.ready.state),
          BitVec.ofNat 8
            (s.ready.causes.start.toNat + 2 * s.ready.causes.stop.toNat + 4 * s.ready.causes.shutdown.toNat +
              8 * s.ready.causes.clash.toNat),
          BitVec.ofNat 8 (linkCode s.link.state)] ∧
      t.port.answer.drop (t.port.answer.length - 4) =
        (if s.role = .genset then [if s.roles.genset.request then 0 else 1, 0, 0, 0]
        else if s.role = .traction then
          [BitVec.ofInt 8 (s.roles.traction.applied / 256), BitVec.ofInt 8 s.roles.traction.applied,
            BitVec.ofInt 8 (s.roles.traction.torque / 256), BitVec.ofInt 8 s.roles.traction.torque]
        else [0, 0, 0, 0])) ∧
    (∃ t, exec (.readShare .whole) s = .next t ∧ t = { s with port := t.port } ∧ t.port.lastOutcome = some .ok ∧
      (s.share.plan = none → t.port.answer.take 76 = List.replicate 76 0) ∧
      (∀ p, s.share.plan = some p →
        t.port.answer.take 3 = [1, BitVec.ofNat 8 (p.number.toNat / 256), BitVec.ofNat 8 (p.number.toNat % 256)])) ∧
    (∀ i : Station, ∃ t, exec (.readPeer .whole (BitVec.ofNat 8 i.val)) s = .next t ∧ t = { s with port := t.port } ∧
      t.port.lastOutcome = some .ok ∧ t.port.answer.length = 58 ∧
      t.port.answer.head? = some (if (peer s i).present then 1 else 0)) ∧
    (∀ n : Byte, 15 < n.toNat → ∃ t, exec (.readPeer .whole n) s = .next t ∧ t = { s with port := t.port } ∧
      t.port.lastOutcome = some .range ∧ t.port.answer = List.replicate 58 0) ∧
    (∀ (i : Fin 12) (r : WearRecord), s.wear.slots[i] = some r →
      ∃ t, exec (.readWear .whole (BitVec.ofNat 8 i.val)) s = .next t ∧ t = { s with port := t.port } ∧
        t.port.lastOutcome = some .ok ∧ t.port.answer.length = 37 ∧
        t.port.answer.head? = some (BitVec.ofNat 8 (wearCode r.kind))) ∧
    (∀ n : Byte, 11 < n.toNat → ∃ t, exec (.readWear .whole n) s = .next t ∧ t = { s with port := t.port } ∧
      t.port.lastOutcome = some .range)

/-- READ SNAPSHOT answers the snapshot as it stood at its answer point and empties it at deselect; NEXT WARNING answers the oldest entry and removes it, answers EMPTY on an empty queue, and leaves an entry that its source updated after the answer point (R127, R192, R193, R202). The mark bytes and lengths of the answers, that the stamp of an answered entry is not compared, and that READ SNAPSHOT of an empty snapshot is replied OK, are the model's reading (notes/assumptions/7.md, 19.md and 59.md). -/
def Obligations.SnapshotAndWarningAreTaken : Prop :=
  (∀ s : State,
      (∃ t, exec (.readSnapshot .whole) s = .next t ∧ t.port.lastOutcome = some .ok ∧
        t = { s with outputs := { s.outputs with snapshot := none }, port := t.port } ∧ t.port.answer.length = 17 ∧
        (s.outputs.snapshot = none → t.port.answer = List.replicate 17 0) ∧
        (∀ x, s.outputs.snapshot = some x →
          t.port.answer.take 6 =
            [1, BitVec.ofNat 8 (x.round.toNat / 16777216), BitVec.ofNat 8 (x.round.toNat / 65536),
              BitVec.ofNat 8 (x.round.toNat / 256), BitVec.ofNat 8 x.round.toNat, match x.output with | .a => 0 | .b => 1])) ∧
      (∀ e rest, s.wear.queue = e :: rest →
        ∃ t, exec (.nextWarning .whole) s = .next t ∧ t.port.lastOutcome = some .ok ∧
          t = { s with wear := { s.wear with queue := rest }, port := t.port } ∧
          t.port.answer.take 2 = [BitVec.ofNat 8 (sourceCode e.source), BitVec.ofNat 8 (levelCode e.level)]) ∧
      (s.wear.queue = [] →
        ∃ t, exec (.nextWarning .whole) s = .next t ∧ t.port.lastOutcome = some .empty ∧ t = { s with port := t.port })) ∧
  (∀ (a e : WarnEntry) (x : Exchange) (rest : List WarnEntry) (s : State),
      s.port.select = .answered x → x.code = 18 → x.argument = 0 → x.reply = .ok → x.answered = some a →
      s.wear.queue = e :: rest →
      ∃ t, exec (.nextWarning .deselect) s = .next t ∧
        t.wear.queue = (if e.source = a.source ∧ e.level = a.level then rest else e :: rest) ∧
        t = { s with wear := { s.wear with queue := t.wear.queue }, port := t.port })

/-! ## Attention (R202, R206) and RESTART (R207) -/

/-- SET ENABLE, CLEAR ENABLE, SET PENDING and CLEAR PENDING add to or remove from their set the sources of bits 0 to 5, ignore bits 6 and 7, and touch no block behind a source; MASTER on and off sets and clears the master enable; each answers OK (R206). -/
def Obligations.AttentionSetsFollowTheHost : Prop :=
  ∀ (mask : Byte) (s : State),
    (∃ t, exec (.setEnable .whole mask) s = .next t ∧ t.port.lastOutcome = some .ok ∧
      (∀ k, k < 6 → t.attention.enable.getLsbD k = (s.attention.enable.getLsbD k || mask.getLsbD k)) ∧
      t = { s with attention := { s.attention with enable := t.attention.enable }, port := t.port }) ∧
    (∃ t, exec (.clearEnable .whole mask) s = .next t ∧ t.port.lastOutcome = some .ok ∧
      (∀ k, k < 6 → t.attention.enable.getLsbD k = (s.attention.enable.getLsbD k && !mask.getLsbD k)) ∧
      t = { s with attention := { s.attention with enable := t.attention.enable }, port := t.port }) ∧
    (∃ t, exec (.setPending .whole mask) s = .next t ∧ t.port.lastOutcome = some .ok ∧
      (∀ k, k < 6 → t.attention.pending.getLsbD k = (s.attention.pending.getLsbD k || mask.getLsbD k)) ∧
      t = { s with attention := { s.attention with pending := t.attention.pending }, port := t.port }) ∧
    (∃ t, exec (.clearPending .whole mask) s = .next t ∧ t.port.lastOutcome = some .ok ∧
      (∀ k, k < 6 → t.attention.pending.getLsbD k = (s.attention.pending.getLsbD k && !mask.getLsbD k)) ∧
      t = { s with attention := { s.attention with pending := t.attention.pending }, port := t.port }) ∧
    (∀ on : Bool, ∃ t, exec (.master .whole (if on then 1 else 0)) s = .next t ∧ t.port.lastOutcome = some .ok ∧
      t = { s with attention := { s.attention with master := on }, port := t.port })

/-- RESTART in a locked state, stated only where no source is active and enabled and auto-engage is off: every block at its restart values (R23, R42, R68, R76, R96, R103, R112, R132, R134, R145, R147, R155, R164, R165, R171, R179, R195, R207), readiness OFFLINE with limits 0 and no cause, the link ACTIVE and empty, both outputs under their reset holds, the pending set empty but for STEP of an abandoned list and WEAR of a rebuilt queue, and the configuration, the counts that run on, the wear records and the pack's charge kept. That ISOLATION is CLEAR after a RESTART from a MUTED link too is DEDUCED (R195; notes/assumptions/16.md). The marks of struck expiries are the model's (notes/assumptions/37.md). In UNCONFIGURED it is refused with WRONG STATE and changes nothing but the port. -/
def Obligations.RestartLeavesItsValues : Prop :=
  (∀ (inputs : BitVec 4) (s : State),
      s.locked = true → s.items.autoEngage = false → enabledActive s .a = false → enabledActive s .b = false →
      ∃ t : State,
        exec (.restart .whole inputs) s = .next t ∧ t.port.lastOutcome = some .ok ∧
        t.ready.state = .offline ∧ t.ready.causes.any = false ∧ t.ready.limitA = 0 ∧ t.ready.limitB = 0 ∧
        t.ready.stopDest = .offline ∧ t.ready.startRetries = 0 ∧ t.ready.onCount = 0 ∧
        t.ready.limitOverride = 1000 ∧ t.ready.offCount = s.items.minOff ∧ t.ready.gapCount = s.items.retryGap ∧
        t.link.state = .active ∧ (∀ k, t.link.outbox.get k = none) ∧ t.link.ceaseLeft = 0 ∧ t.link.streak = 0 ∧
        t.link.holdOff = none ∧ t.link.probeCount = 0 ∧ t.link.line = s.link.line ∧
        (∀ x, t.link.tx = some x → x.detached = true) ∧
        (∀ i : Station, i ≠ s.self → t.peers[i] = {}) ∧ t.peers[s.self].demand = s.peers[s.self].demand ∧
        t.peers[s.self].surplus = false ∧
        t.share =
          { s.share with
            held := 0, staleCount := 0, pass := none, pendingDemand := none, traction := .closed, link := .closed, plan := none } ∧
        t.engine.list = none ∧ t.engine.memory = s.engine.memory ∧ t.engine.pointer = 0 ∧ t.engine.stack = [] ∧
        t.engine.budget = 0 ∧ t.engine.wait = .none ∧ (∀ l : Fin 4, t.engine.pulses[l] = 0) ∧ t.engine.holdsA = false ∧
        (s.engine.list = none → t.engine.outcome = s.engine.outcome) ∧
        (∀ a : Attn, isPending t a = true ↔
          (a = .step ∧ s.engine.list.isSome = true) ∨ (a = .wear ∧ rebuiltQueue s.wear.slots ≠ [])) ∧
        (∀ n : CapName, t.capture.get n =
          { edges := 0, fifo := [], overflow := false, reference := none, speed := 0, timer := none
            struck := (s.capture.get n).struck || decide ((s.capture.get n).timer = some 0) }) ∧
        t.capture.demod =
          { rising := none, high := none, duty := s.capture.demod.duty, absent := true, timer := none
            struck := s.capture.demod.struck || decide (s.capture.demod.timer = some 0) } ∧
        t.roles.demand = { s.roles.demand with result := 0, rampBase := 0 } ∧
        t.roles.genset = { s.roles.genset with request := false } ∧
        t.roles.traction = { s.roles.traction with applied := 0, torque := 0, awaiting := false } ∧
        (∀ i : Station, t.roles.friction.contributions[i] = 0) ∧
        t.roles.friction =
          { s.roles.friction with
            applied := 0, contributions := t.roles.friction.contributions, ownPart := 0, stopHold := false
            lastCompletion := none, thicknessAbsent := true } ∧
        (∀ name, s.engine.list = some name →
          isPending t .step = true ∧
          t.engine.outcome = some { list := name, verdict := .abandoned, cause := none, failStep := none }) ∧
        (∀ n : OutName, (t.outputs.get n).source = .none ∧ IsHeld t n ∧ (t.outputs.get n).pin = .shutdown) ∧
        (s.items.dutyLo ≤ s.items.dutyHi → t.outputs.a.pending = restDuty s) ∧ t.outputs.b.pending = s.outputs.b.pending ∧
        t.outputs.snapshot = none ∧
        t.outputs.soft = s.outputs.soft ∧ t.outputs.lines = s.outputs.lines ∧
        KeepsRecords s t ∧ t.wear.deficit.alarm = false ∧ t.wear.isolation.alarm = false ∧ t.wear.refresh = 99 ∧
        t.wear.queue = rebuiltQueue s.wear.slots ∧ t.wear.factor = wearFactor s.wear ∧ t.wear.lowMark = s.wear.lowMark ∧
        t.roles.pack = s.roles.pack ∧ t.roles.friction.temp = s.roles.friction.temp ∧ t.roles.genset.request = false ∧
        t.attention.enable = s.attention.enable ∧ t.attention.master = s.attention.master ∧
        t.items = s.items ∧ t.round = s.round ∧ t.wheel = s.wheel ∧ t.capture.micros = s.capture.micros ∧
        t.pins = { s.pins with inputs } ∧ t.pending = s.pending) ∧
  (∀ (inputs : BitVec 4) (s : State), s.locked = false →
      ∃ t, exec (.restart .whole inputs) s = .next t ∧ t = { s with pins := { s.pins with inputs }, port := t.port } ∧
        t.port.lastOutcome = some .wrongState)

/-! ## What every step keeps -/

/-- Every step keeps the limit factor and the wear factor within 1000 and the posted limits: 0 outside READY and DERATED and while output A is in shutdown, and never above the rated figures under the limit factor (R83). -/
def Obligations.LimitsHoldThroughEveryStep : Prop :=
  ∀ s t : State, LimitsHold s → step s = .next t → LimitsHold t

/-- Every step keeps the command outputs: the zero-power gate, the map, the pins at rest in shutdown and under FAULTED holding, the holds before LOCK, the safe lines, and a TRACTION node's applied grant as its conditions stand (R117, R120, R124, R125, R130, R168). That the grant waits for the next plan under every condition once the link has returned is DEDUCED (notes/assumptions/51.md). -/
def Obligations.OutputsHoldThroughEveryStep : Prop :=
  ∀ s t : State, OutputsHold s → step s = .next t → OutputsHold t

/-- Every step keeps the pack's charge within its capacity and its SOC formed from it (R156, R157). -/
def Obligations.PackHoldsThroughEveryStep : Prop :=
  ∀ s t : State, PackHolds s → step s = .next t → PackHolds t

/-- Every step keeps the Link Controller's bounds: the CEASE remainder with its frame, the outbox by link state, the streak below 8 in ACTIVE (R14, R17, R19, R21). -/
def Obligations.LinkHoldsThroughEveryStep : Prop :=
  ∀ s t : State, LinkHolds s → step s = .next t → LinkHolds t

/-- Every step keeps readiness and its lists together: lists only in their passages, FAULTED exactly with a cause, a latched output A among the causes, at most 4 return indices; and the Demand Role's result and ramp base 0 outside READY and DERATED (R70, R74, R86, R122, R140). That both are 0 at once there is DEDUCED (notes/assumptions/48.md). -/
def Obligations.ReadinessHoldsThroughEveryStep : Prop :=
  ∀ s t : State, ReadinessHolds s → step s = .next t → ReadinessHolds t

/-- Every step keeps the bounded stores: capture FIFOs, warning queue, cease windows and held demand (R43, R105, R192). -/
def Obligations.StoresHoldThroughEveryStep : Prop :=
  ∀ s t : State, StoresHold s → step s = .next t → StoresHold t

/-- The part right after reset meets every one of these invariants. State.reset's straps, pin levels and raw counts are the model's choice (log 1); none of the invariants asks for a particular one of them. -/
def Obligations.InvariantsHoldAtReset : Prop :=
  LimitsHold State.reset ∧ OutputsHold State.reset ∧ PackHolds State.reset ∧ LinkHolds State.reset ∧
    ReadinessHolds State.reset ∧ StoresHold State.reset
end

