-- ==== Sys2Proof/Laws/State.lean ====
section
/-! SUPPORT. The small lemmas of the named updates: what an update of one part of the state leaves as it stood, and what it puts there. All hold by computation, and later proofs cite them in place of the record updates. -/

namespace Sys2Proof.Machine

/-! ## `raise` -/

@[simp] theorem raise_pins (a : Attn) (s : State) : (raise a s).pins = s.pins := rfl
@[simp] theorem raise_items (a : Attn) (s : State) : (raise a s).items = s.items := rfl
@[simp] theorem raise_link (a : Attn) (s : State) : (raise a s).link = s.link := rfl
@[simp] theorem raise_round (a : Attn) (s : State) : (raise a s).round = s.round := rfl
@[simp] theorem raise_peers (a : Attn) (s : State) : (raise a s).peers = s.peers := rfl
@[simp] theorem raise_share (a : Attn) (s : State) : (raise a s).share = s.share := rfl
@[simp] theorem raise_ready (a : Attn) (s : State) : (raise a s).ready = s.ready := rfl
@[simp] theorem raise_engine (a : Attn) (s : State) : (raise a s).engine = s.engine := rfl
@[simp] theorem raise_wheel (a : Attn) (s : State) : (raise a s).wheel = s.wheel := rfl
@[simp] theorem raise_capture (a : Attn) (s : State) : (raise a s).capture = s.capture := rfl
@[simp] theorem raise_outputs (a : Attn) (s : State) : (raise a s).outputs = s.outputs := rfl
@[simp] theorem raise_roles (a : Attn) (s : State) : (raise a s).roles = s.roles := rfl
@[simp] theorem raise_wear (a : Attn) (s : State) : (raise a s).wear = s.wear := rfl
@[simp] theorem raise_port (a : Attn) (s : State) : (raise a s).port = s.port := rfl
@[simp] theorem raise_orders (a : Attn) (s : State) : (raise a s).orders = s.orders := rfl
@[simp] theorem raise_pending (a : Attn) (s : State) : (raise a s).pending = s.pending := rfl

/-! ## `raiseIf` -/

@[simp] theorem raiseIf_pins (c : Bool) (a : Attn) (s : State) : (raiseIf c a s).pins = s.pins := rfl
@[simp] theorem raiseIf_items (c : Bool) (a : Attn) (s : State) : (raiseIf c a s).items = s.items := rfl
@[simp] theorem raiseIf_link (c : Bool) (a : Attn) (s : State) : (raiseIf c a s).link = s.link := rfl
@[simp] theorem raiseIf_round (c : Bool) (a : Attn) (s : State) : (raiseIf c a s).round = s.round := rfl
@[simp] theorem raiseIf_peers (c : Bool) (a : Attn) (s : State) : (raiseIf c a s).peers = s.peers := rfl
@[simp] theorem raiseIf_share (c : Bool) (a : Attn) (s : State) : (raiseIf c a s).share = s.share := rfl
@[simp] theorem raiseIf_ready (c : Bool) (a : Attn) (s : State) : (raiseIf c a s).ready = s.ready := rfl
@[simp] theorem raiseIf_engine (c : Bool) (a : Attn) (s : State) : (raiseIf c a s).engine = s.engine := rfl
@[simp] theorem raiseIf_wheel (c : Bool) (a : Attn) (s : State) : (raiseIf c a s).wheel = s.wheel := rfl
@[simp] theorem raiseIf_capture (c : Bool) (a : Attn) (s : State) : (raiseIf c a s).capture = s.capture := rfl
@[simp] theorem raiseIf_outputs (c : Bool) (a : Attn) (s : State) : (raiseIf c a s).outputs = s.outputs := rfl
@[simp] theorem raiseIf_roles (c : Bool) (a : Attn) (s : State) : (raiseIf c a s).roles = s.roles := rfl
@[simp] theorem raiseIf_wear (c : Bool) (a : Attn) (s : State) : (raiseIf c a s).wear = s.wear := rfl
@[simp] theorem raiseIf_port (c : Bool) (a : Attn) (s : State) : (raiseIf c a s).port = s.port := rfl
@[simp] theorem raiseIf_orders (c : Bool) (a : Attn) (s : State) : (raiseIf c a s).orders = s.orders := rfl
@[simp] theorem raiseIf_pending (c : Bool) (a : Attn) (s : State) : (raiseIf c a s).pending = s.pending := rfl

/-! ## `putPeer` -/

@[simp] theorem putPeer_pins (i : Station) (r : PeerRecord) (s : State) : (putPeer i r s).pins = s.pins := rfl
@[simp] theorem putPeer_items (i : Station) (r : PeerRecord) (s : State) : (putPeer i r s).items = s.items := rfl
@[simp] theorem putPeer_link (i : Station) (r : PeerRecord) (s : State) : (putPeer i r s).link = s.link := rfl
@[simp] theorem putPeer_round (i : Station) (r : PeerRecord) (s : State) : (putPeer i r s).round = s.round := rfl
@[simp] theorem putPeer_share (i : Station) (r : PeerRecord) (s : State) : (putPeer i r s).share = s.share := rfl
@[simp] theorem putPeer_ready (i : Station) (r : PeerRecord) (s : State) : (putPeer i r s).ready = s.ready := rfl
@[simp] theorem putPeer_engine (i : Station) (r : PeerRecord) (s : State) : (putPeer i r s).engine = s.engine := rfl
@[simp] theorem putPeer_wheel (i : Station) (r : PeerRecord) (s : State) : (putPeer i r s).wheel = s.wheel := rfl
@[simp] theorem putPeer_capture (i : Station) (r : PeerRecord) (s : State) : (putPeer i r s).capture = s.capture := rfl
@[simp] theorem putPeer_outputs (i : Station) (r : PeerRecord) (s : State) : (putPeer i r s).outputs = s.outputs := rfl
@[simp] theorem putPeer_roles (i : Station) (r : PeerRecord) (s : State) : (putPeer i r s).roles = s.roles := rfl
@[simp] theorem putPeer_wear (i : Station) (r : PeerRecord) (s : State) : (putPeer i r s).wear = s.wear := rfl
@[simp] theorem putPeer_attention (i : Station) (r : PeerRecord) (s : State) : (putPeer i r s).attention = s.attention := rfl
@[simp] theorem putPeer_port (i : Station) (r : PeerRecord) (s : State) : (putPeer i r s).port = s.port := rfl
@[simp] theorem putPeer_orders (i : Station) (r : PeerRecord) (s : State) : (putPeer i r s).orders = s.orders := rfl
@[simp] theorem putPeer_pending (i : Station) (r : PeerRecord) (s : State) : (putPeer i r s).pending = s.pending := rfl

/-! ## `place` -/

@[simp] theorem place_pins (k : FrameKind) (p : List Byte) (s : State) : (place k p s).pins = s.pins := rfl
@[simp] theorem place_items (k : FrameKind) (p : List Byte) (s : State) : (place k p s).items = s.items := rfl
@[simp] theorem place_round (k : FrameKind) (p : List Byte) (s : State) : (place k p s).round = s.round := rfl
@[simp] theorem place_peers (k : FrameKind) (p : List Byte) (s : State) : (place k p s).peers = s.peers := rfl
@[simp] theorem place_share (k : FrameKind) (p : List Byte) (s : State) : (place k p s).share = s.share := rfl
@[simp] theorem place_ready (k : FrameKind) (p : List Byte) (s : State) : (place k p s).ready = s.ready := rfl
@[simp] theorem place_engine (k : FrameKind) (p : List Byte) (s : State) : (place k p s).engine = s.engine := rfl
@[simp] theorem place_wheel (k : FrameKind) (p : List Byte) (s : State) : (place k p s).wheel = s.wheel := rfl
@[simp] theorem place_capture (k : FrameKind) (p : List Byte) (s : State) : (place k p s).capture = s.capture := rfl
@[simp] theorem place_outputs (k : FrameKind) (p : List Byte) (s : State) : (place k p s).outputs = s.outputs := rfl
@[simp] theorem place_roles (k : FrameKind) (p : List Byte) (s : State) : (place k p s).roles = s.roles := rfl
@[simp] theorem place_wear (k : FrameKind) (p : List Byte) (s : State) : (place k p s).wear = s.wear := rfl
@[simp] theorem place_attention (k : FrameKind) (p : List Byte) (s : State) : (place k p s).attention = s.attention := rfl
@[simp] theorem place_port (k : FrameKind) (p : List Byte) (s : State) : (place k p s).port = s.port := rfl
@[simp] theorem place_orders (k : FrameKind) (p : List Byte) (s : State) : (place k p s).orders = s.orders := rfl
@[simp] theorem place_pending (k : FrameKind) (p : List Byte) (s : State) : (place k p s).pending = s.pending := rfl

/-! ## `writeA` -/

@[simp] theorem writeA_pins (d : Int) (s : State) : (writeA d s).pins = s.pins := rfl
@[simp] theorem writeA_items (d : Int) (s : State) : (writeA d s).items = s.items := rfl
@[simp] theorem writeA_link (d : Int) (s : State) : (writeA d s).link = s.link := rfl
@[simp] theorem writeA_round (d : Int) (s : State) : (writeA d s).round = s.round := rfl
@[simp] theorem writeA_peers (d : Int) (s : State) : (writeA d s).peers = s.peers := rfl
@[simp] theorem writeA_share (d : Int) (s : State) : (writeA d s).share = s.share := rfl
@[simp] theorem writeA_ready (d : Int) (s : State) : (writeA d s).ready = s.ready := rfl
@[simp] theorem writeA_engine (d : Int) (s : State) : (writeA d s).engine = s.engine := rfl
@[simp] theorem writeA_wheel (d : Int) (s : State) : (writeA d s).wheel = s.wheel := rfl
@[simp] theorem writeA_capture (d : Int) (s : State) : (writeA d s).capture = s.capture := rfl
@[simp] theorem writeA_roles (d : Int) (s : State) : (writeA d s).roles = s.roles := rfl
@[simp] theorem writeA_wear (d : Int) (s : State) : (writeA d s).wear = s.wear := rfl
@[simp] theorem writeA_attention (d : Int) (s : State) : (writeA d s).attention = s.attention := rfl
@[simp] theorem writeA_port (d : Int) (s : State) : (writeA d s).port = s.port := rfl
@[simp] theorem writeA_orders (d : Int) (s : State) : (writeA d s).orders = s.orders := rfl
@[simp] theorem writeA_pending (d : Int) (s : State) : (writeA d s).pending = s.pending := rfl

/-! ## `driveLine` -/

@[simp] theorem driveLine_pins (l : Fin 4) (on : Bool) (s : State) : (driveLine l on s).pins = s.pins := rfl
@[simp] theorem driveLine_items (l : Fin 4) (on : Bool) (s : State) : (driveLine l on s).items = s.items := rfl
@[simp] theorem driveLine_link (l : Fin 4) (on : Bool) (s : State) : (driveLine l on s).link = s.link := rfl
@[simp] theorem driveLine_round (l : Fin 4) (on : Bool) (s : State) : (driveLine l on s).round = s.round := rfl
@[simp] theorem driveLine_peers (l : Fin 4) (on : Bool) (s : State) : (driveLine l on s).peers = s.peers := rfl
@[simp] theorem driveLine_share (l : Fin 4) (on : Bool) (s : State) : (driveLine l on s).share = s.share := rfl
@[simp] theorem driveLine_ready (l : Fin 4) (on : Bool) (s : State) : (driveLine l on s).ready = s.ready := rfl
@[simp] theorem driveLine_engine (l : Fin 4) (on : Bool) (s : State) : (driveLine l on s).engine = s.engine := rfl
@[simp] theorem driveLine_wheel (l : Fin 4) (on : Bool) (s : State) : (driveLine l on s).wheel = s.wheel := rfl
@[simp] theorem driveLine_capture (l : Fin 4) (on : Bool) (s : State) : (driveLine l on s).capture = s.capture := rfl
@[simp] theorem driveLine_roles (l : Fin 4) (on : Bool) (s : State) : (driveLine l on s).roles = s.roles := rfl
@[simp] theorem driveLine_wear (l : Fin 4) (on : Bool) (s : State) : (driveLine l on s).wear = s.wear := rfl
@[simp] theorem driveLine_attention (l : Fin 4) (on : Bool) (s : State) : (driveLine l on s).attention = s.attention := rfl
@[simp] theorem driveLine_port (l : Fin 4) (on : Bool) (s : State) : (driveLine l on s).port = s.port := rfl
@[simp] theorem driveLine_orders (l : Fin 4) (on : Bool) (s : State) : (driveLine l on s).orders = s.orders := rfl
@[simp] theorem driveLine_pending (l : Fin 4) (on : Bool) (s : State) : (driveLine l on s).pending = s.pending := rfl

/-! ## `gateOnset` -/

@[simp] theorem gateOnset_pins (s : State) : (gateOnset s).pins = s.pins := rfl
@[simp] theorem gateOnset_items (s : State) : (gateOnset s).items = s.items := rfl
@[simp] theorem gateOnset_link (s : State) : (gateOnset s).link = s.link := rfl
@[simp] theorem gateOnset_round (s : State) : (gateOnset s).round = s.round := rfl
@[simp] theorem gateOnset_peers (s : State) : (gateOnset s).peers = s.peers := rfl
@[simp] theorem gateOnset_share (s : State) : (gateOnset s).share = s.share := rfl
@[simp] theorem gateOnset_ready (s : State) : (gateOnset s).ready = s.ready := rfl
@[simp] theorem gateOnset_engine (s : State) : (gateOnset s).engine = s.engine := rfl
@[simp] theorem gateOnset_wheel (s : State) : (gateOnset s).wheel = s.wheel := rfl
@[simp] theorem gateOnset_capture (s : State) : (gateOnset s).capture = s.capture := rfl
@[simp] theorem gateOnset_roles (s : State) : (gateOnset s).roles = s.roles := rfl
@[simp] theorem gateOnset_wear (s : State) : (gateOnset s).wear = s.wear := rfl
@[simp] theorem gateOnset_attention (s : State) : (gateOnset s).attention = s.attention := rfl
@[simp] theorem gateOnset_port (s : State) : (gateOnset s).port = s.port := rfl
@[simp] theorem gateOnset_orders (s : State) : (gateOnset s).orders = s.orders := rfl
@[simp] theorem gateOnset_pending (s : State) : (gateOnset s).pending = s.pending := rfl

/-! ## `setPulse` -/

@[simp] theorem setPulse_pins (l : Fin 4) (k : Nat) (s : State) : (setPulse l k s).pins = s.pins := rfl
@[simp] theorem setPulse_items (l : Fin 4) (k : Nat) (s : State) : (setPulse l k s).items = s.items := rfl
@[simp] theorem setPulse_link (l : Fin 4) (k : Nat) (s : State) : (setPulse l k s).link = s.link := rfl
@[simp] theorem setPulse_round (l : Fin 4) (k : Nat) (s : State) : (setPulse l k s).round = s.round := rfl
@[simp] theorem setPulse_peers (l : Fin 4) (k : Nat) (s : State) : (setPulse l k s).peers = s.peers := rfl
@[simp] theorem setPulse_share (l : Fin 4) (k : Nat) (s : State) : (setPulse l k s).share = s.share := rfl
@[simp] theorem setPulse_ready (l : Fin 4) (k : Nat) (s : State) : (setPulse l k s).ready = s.ready := rfl
@[simp] theorem setPulse_wheel (l : Fin 4) (k : Nat) (s : State) : (setPulse l k s).wheel = s.wheel := rfl
@[simp] theorem setPulse_capture (l : Fin 4) (k : Nat) (s : State) : (setPulse l k s).capture = s.capture := rfl
@[simp] theorem setPulse_outputs (l : Fin 4) (k : Nat) (s : State) : (setPulse l k s).outputs = s.outputs := rfl
@[simp] theorem setPulse_roles (l : Fin 4) (k : Nat) (s : State) : (setPulse l k s).roles = s.roles := rfl
@[simp] theorem setPulse_wear (l : Fin 4) (k : Nat) (s : State) : (setPulse l k s).wear = s.wear := rfl
@[simp] theorem setPulse_attention (l : Fin 4) (k : Nat) (s : State) : (setPulse l k s).attention = s.attention := rfl
@[simp] theorem setPulse_port (l : Fin 4) (k : Nat) (s : State) : (setPulse l k s).port = s.port := rfl
@[simp] theorem setPulse_orders (l : Fin 4) (k : Nat) (s : State) : (setPulse l k s).orders = s.orders := rfl
@[simp] theorem setPulse_pending (l : Fin 4) (k : Nat) (s : State) : (setPulse l k s).pending = s.pending := rfl

/-! ## `withInputs` -/

@[simp] theorem withInputs_items (b : BitVec 4) (s : State) : (withInputs b s).items = s.items := rfl
@[simp] theorem withInputs_link (b : BitVec 4) (s : State) : (withInputs b s).link = s.link := rfl
@[simp] theorem withInputs_round (b : BitVec 4) (s : State) : (withInputs b s).round = s.round := rfl
@[simp] theorem withInputs_peers (b : BitVec 4) (s : State) : (withInputs b s).peers = s.peers := rfl
@[simp] theorem withInputs_share (b : BitVec 4) (s : State) : (withInputs b s).share = s.share := rfl
@[simp] theorem withInputs_ready (b : BitVec 4) (s : State) : (withInputs b s).ready = s.ready := rfl
@[simp] theorem withInputs_engine (b : BitVec 4) (s : State) : (withInputs b s).engine = s.engine := rfl
@[simp] theorem withInputs_wheel (b : BitVec 4) (s : State) : (withInputs b s).wheel = s.wheel := rfl
@[simp] theorem withInputs_capture (b : BitVec 4) (s : State) : (withInputs b s).capture = s.capture := rfl
@[simp] theorem withInputs_outputs (b : BitVec 4) (s : State) : (withInputs b s).outputs = s.outputs := rfl
@[simp] theorem withInputs_roles (b : BitVec 4) (s : State) : (withInputs b s).roles = s.roles := rfl
@[simp] theorem withInputs_wear (b : BitVec 4) (s : State) : (withInputs b s).wear = s.wear := rfl
@[simp] theorem withInputs_attention (b : BitVec 4) (s : State) : (withInputs b s).attention = s.attention := rfl
@[simp] theorem withInputs_port (b : BitVec 4) (s : State) : (withInputs b s).port = s.port := rfl
@[simp] theorem withInputs_orders (b : BitVec 4) (s : State) : (withInputs b s).orders = s.orders := rfl
@[simp] theorem withInputs_pending (b : BitVec 4) (s : State) : (withInputs b s).pending = s.pending := rfl

/-! ## `awaitIdle` -/

@[simp] theorem awaitIdle_pins (s : State) : (awaitIdle s).pins = s.pins := rfl
@[simp] theorem awaitIdle_items (s : State) : (awaitIdle s).items = s.items := rfl
@[simp] theorem awaitIdle_round (s : State) : (awaitIdle s).round = s.round := rfl
@[simp] theorem awaitIdle_peers (s : State) : (awaitIdle s).peers = s.peers := rfl
@[simp] theorem awaitIdle_share (s : State) : (awaitIdle s).share = s.share := rfl
@[simp] theorem awaitIdle_ready (s : State) : (awaitIdle s).ready = s.ready := rfl
@[simp] theorem awaitIdle_engine (s : State) : (awaitIdle s).engine = s.engine := rfl
@[simp] theorem awaitIdle_wheel (s : State) : (awaitIdle s).wheel = s.wheel := rfl
@[simp] theorem awaitIdle_capture (s : State) : (awaitIdle s).capture = s.capture := rfl
@[simp] theorem awaitIdle_outputs (s : State) : (awaitIdle s).outputs = s.outputs := rfl
@[simp] theorem awaitIdle_roles (s : State) : (awaitIdle s).roles = s.roles := rfl
@[simp] theorem awaitIdle_wear (s : State) : (awaitIdle s).wear = s.wear := rfl
@[simp] theorem awaitIdle_attention (s : State) : (awaitIdle s).attention = s.attention := rfl
@[simp] theorem awaitIdle_port (s : State) : (awaitIdle s).port = s.port := rfl
@[simp] theorem awaitIdle_orders (s : State) : (awaitIdle s).orders = s.orders := rfl
@[simp] theorem awaitIdle_pending (s : State) : (awaitIdle s).pending = s.pending := rfl

/-! ## `withLimits` -/

@[simp] theorem withLimits_pins (s : State) : (withLimits s).pins = s.pins := rfl
@[simp] theorem withLimits_items (s : State) : (withLimits s).items = s.items := rfl
@[simp] theorem withLimits_link (s : State) : (withLimits s).link = s.link := rfl
@[simp] theorem withLimits_round (s : State) : (withLimits s).round = s.round := rfl
@[simp] theorem withLimits_peers (s : State) : (withLimits s).peers = s.peers := rfl
@[simp] theorem withLimits_share (s : State) : (withLimits s).share = s.share := rfl
@[simp] theorem withLimits_engine (s : State) : (withLimits s).engine = s.engine := rfl
@[simp] theorem withLimits_wheel (s : State) : (withLimits s).wheel = s.wheel := rfl
@[simp] theorem withLimits_capture (s : State) : (withLimits s).capture = s.capture := rfl
@[simp] theorem withLimits_outputs (s : State) : (withLimits s).outputs = s.outputs := rfl
@[simp] theorem withLimits_roles (s : State) : (withLimits s).roles = s.roles := rfl
@[simp] theorem withLimits_wear (s : State) : (withLimits s).wear = s.wear := rfl
@[simp] theorem withLimits_attention (s : State) : (withLimits s).attention = s.attention := rfl
@[simp] theorem withLimits_port (s : State) : (withLimits s).port = s.port := rfl
@[simp] theorem withLimits_orders (s : State) : (withLimits s).orders = s.orders := rfl
@[simp] theorem withLimits_pending (s : State) : (withLimits s).pending = s.pending := rfl

/-! ## `onOutput` -/

@[simp] theorem onOutput_pins (n : OutName) (f : Output → Output) (s : State) : (onOutput n f s).pins = s.pins := rfl
@[simp] theorem onOutput_items (n : OutName) (f : Output → Output) (s : State) : (onOutput n f s).items = s.items := rfl
@[simp] theorem onOutput_link (n : OutName) (f : Output → Output) (s : State) : (onOutput n f s).link = s.link := rfl
@[simp] theorem onOutput_round (n : OutName) (f : Output → Output) (s : State) : (onOutput n f s).round = s.round := rfl
@[simp] theorem onOutput_peers (n : OutName) (f : Output → Output) (s : State) : (onOutput n f s).peers = s.peers := rfl
@[simp] theorem onOutput_share (n : OutName) (f : Output → Output) (s : State) : (onOutput n f s).share = s.share := rfl
@[simp] theorem onOutput_ready (n : OutName) (f : Output → Output) (s : State) : (onOutput n f s).ready = s.ready := rfl
@[simp] theorem onOutput_engine (n : OutName) (f : Output → Output) (s : State) : (onOutput n f s).engine = s.engine := rfl
@[simp] theorem onOutput_wheel (n : OutName) (f : Output → Output) (s : State) : (onOutput n f s).wheel = s.wheel := rfl
@[simp] theorem onOutput_capture (n : OutName) (f : Output → Output) (s : State) : (onOutput n f s).capture = s.capture := rfl
@[simp] theorem onOutput_roles (n : OutName) (f : Output → Output) (s : State) : (onOutput n f s).roles = s.roles := rfl
@[simp] theorem onOutput_wear (n : OutName) (f : Output → Output) (s : State) : (onOutput n f s).wear = s.wear := rfl
@[simp] theorem onOutput_attention (n : OutName) (f : Output → Output) (s : State) : (onOutput n f s).attention = s.attention := rfl
@[simp] theorem onOutput_port (n : OutName) (f : Output → Output) (s : State) : (onOutput n f s).port = s.port := rfl
@[simp] theorem onOutput_orders (n : OutName) (f : Output → Output) (s : State) : (onOutput n f s).orders = s.orders := rfl
@[simp] theorem onOutput_pending (n : OutName) (f : Output → Output) (s : State) : (onOutput n f s).pending = s.pending := rfl

/-! ## `freezeSnapshot` -/

@[simp] theorem freezeSnapshot_pins (n : OutName) (s : State) : (freezeSnapshot n s).pins = s.pins := rfl
@[simp] theorem freezeSnapshot_items (n : OutName) (s : State) : (freezeSnapshot n s).items = s.items := rfl
@[simp] theorem freezeSnapshot_link (n : OutName) (s : State) : (freezeSnapshot n s).link = s.link := rfl
@[simp] theorem freezeSnapshot_round (n : OutName) (s : State) : (freezeSnapshot n s).round = s.round := rfl
@[simp] theorem freezeSnapshot_peers (n : OutName) (s : State) : (freezeSnapshot n s).peers = s.peers := rfl
@[simp] theorem freezeSnapshot_share (n : OutName) (s : State) : (freezeSnapshot n s).share = s.share := rfl
@[simp] theorem freezeSnapshot_ready (n : OutName) (s : State) : (freezeSnapshot n s).ready = s.ready := rfl
@[simp] theorem freezeSnapshot_engine (n : OutName) (s : State) : (freezeSnapshot n s).engine = s.engine := rfl
@[simp] theorem freezeSnapshot_wheel (n : OutName) (s : State) : (freezeSnapshot n s).wheel = s.wheel := rfl
@[simp] theorem freezeSnapshot_capture (n : OutName) (s : State) : (freezeSnapshot n s).capture = s.capture := rfl
@[simp] theorem freezeSnapshot_roles (n : OutName) (s : State) : (freezeSnapshot n s).roles = s.roles := rfl
@[simp] theorem freezeSnapshot_wear (n : OutName) (s : State) : (freezeSnapshot n s).wear = s.wear := rfl
@[simp] theorem freezeSnapshot_attention (n : OutName) (s : State) : (freezeSnapshot n s).attention = s.attention := rfl
@[simp] theorem freezeSnapshot_port (n : OutName) (s : State) : (freezeSnapshot n s).port = s.port := rfl
@[simp] theorem freezeSnapshot_orders (n : OutName) (s : State) : (freezeSnapshot n s).orders = s.orders := rfl
@[simp] theorem freezeSnapshot_pending (n : OutName) (s : State) : (freezeSnapshot n s).pending = s.pending := rfl

/-! ## `startPass` -/

@[simp] theorem startPass_pins (s : State) : (startPass s).pins = s.pins := rfl
@[simp] theorem startPass_items (s : State) : (startPass s).items = s.items := rfl
@[simp] theorem startPass_link (s : State) : (startPass s).link = s.link := rfl
@[simp] theorem startPass_round (s : State) : (startPass s).round = s.round := rfl
@[simp] theorem startPass_peers (s : State) : (startPass s).peers = s.peers := rfl
@[simp] theorem startPass_ready (s : State) : (startPass s).ready = s.ready := rfl
@[simp] theorem startPass_engine (s : State) : (startPass s).engine = s.engine := rfl
@[simp] theorem startPass_wheel (s : State) : (startPass s).wheel = s.wheel := rfl
@[simp] theorem startPass_capture (s : State) : (startPass s).capture = s.capture := rfl
@[simp] theorem startPass_outputs (s : State) : (startPass s).outputs = s.outputs := rfl
@[simp] theorem startPass_roles (s : State) : (startPass s).roles = s.roles := rfl
@[simp] theorem startPass_wear (s : State) : (startPass s).wear = s.wear := rfl
@[simp] theorem startPass_attention (s : State) : (startPass s).attention = s.attention := rfl
@[simp] theorem startPass_port (s : State) : (startPass s).port = s.port := rfl
@[simp] theorem startPass_orders (s : State) : (startPass s).orders = s.orders := rfl
@[simp] theorem startPass_pending (s : State) : (startPass s).pending = s.pending := rfl

/-! ## `clearHolds` -/

@[simp] theorem clearHolds_pins (s : State) : (clearHolds s).pins = s.pins := rfl
@[simp] theorem clearHolds_items (s : State) : (clearHolds s).items = s.items := rfl
@[simp] theorem clearHolds_link (s : State) : (clearHolds s).link = s.link := rfl
@[simp] theorem clearHolds_round (s : State) : (clearHolds s).round = s.round := rfl
@[simp] theorem clearHolds_peers (s : State) : (clearHolds s).peers = s.peers := rfl
@[simp] theorem clearHolds_share (s : State) : (clearHolds s).share = s.share := rfl
@[simp] theorem clearHolds_ready (s : State) : (clearHolds s).ready = s.ready := rfl
@[simp] theorem clearHolds_engine (s : State) : (clearHolds s).engine = s.engine := rfl
@[simp] theorem clearHolds_wheel (s : State) : (clearHolds s).wheel = s.wheel := rfl
@[simp] theorem clearHolds_capture (s : State) : (clearHolds s).capture = s.capture := rfl
@[simp] theorem clearHolds_roles (s : State) : (clearHolds s).roles = s.roles := rfl
@[simp] theorem clearHolds_wear (s : State) : (clearHolds s).wear = s.wear := rfl
@[simp] theorem clearHolds_attention (s : State) : (clearHolds s).attention = s.attention := rfl
@[simp] theorem clearHolds_port (s : State) : (clearHolds s).port = s.port := rfl
@[simp] theorem clearHolds_orders (s : State) : (clearHolds s).orders = s.orders := rfl
@[simp] theorem clearHolds_pending (s : State) : (clearHolds s).pending = s.pending := rfl

/-! ## `publish` -/

@[simp] theorem publish_pins (p : Plan) (s : State) : (publish p s).pins = s.pins := rfl
@[simp] theorem publish_items (p : Plan) (s : State) : (publish p s).items = s.items := rfl
@[simp] theorem publish_link (p : Plan) (s : State) : (publish p s).link = s.link := rfl
@[simp] theorem publish_round (p : Plan) (s : State) : (publish p s).round = s.round := rfl
@[simp] theorem publish_peers (p : Plan) (s : State) : (publish p s).peers = s.peers := rfl
@[simp] theorem publish_ready (p : Plan) (s : State) : (publish p s).ready = s.ready := rfl
@[simp] theorem publish_engine (p : Plan) (s : State) : (publish p s).engine = s.engine := rfl
@[simp] theorem publish_wheel (p : Plan) (s : State) : (publish p s).wheel = s.wheel := rfl
@[simp] theorem publish_capture (p : Plan) (s : State) : (publish p s).capture = s.capture := rfl
@[simp] theorem publish_outputs (p : Plan) (s : State) : (publish p s).outputs = s.outputs := rfl
@[simp] theorem publish_roles (p : Plan) (s : State) : (publish p s).roles = s.roles := rfl
@[simp] theorem publish_wear (p : Plan) (s : State) : (publish p s).wear = s.wear := rfl
@[simp] theorem publish_attention (p : Plan) (s : State) : (publish p s).attention = s.attention := rfl
@[simp] theorem publish_port (p : Plan) (s : State) : (publish p s).port = s.port := rfl
@[simp] theorem publish_orders (p : Plan) (s : State) : (publish p s).orders = s.orders := rfl
@[simp] theorem publish_pending (p : Plan) (s : State) : (publish p s).pending = s.pending := rfl

/-! ## `endCopy` -/

@[simp] theorem endCopy_pins (s : State) : (endCopy s).pins = s.pins := rfl
@[simp] theorem endCopy_items (s : State) : (endCopy s).items = s.items := rfl
@[simp] theorem endCopy_round (s : State) : (endCopy s).round = s.round := rfl
@[simp] theorem endCopy_peers (s : State) : (endCopy s).peers = s.peers := rfl
@[simp] theorem endCopy_share (s : State) : (endCopy s).share = s.share := rfl
@[simp] theorem endCopy_ready (s : State) : (endCopy s).ready = s.ready := rfl
@[simp] theorem endCopy_engine (s : State) : (endCopy s).engine = s.engine := rfl
@[simp] theorem endCopy_wheel (s : State) : (endCopy s).wheel = s.wheel := rfl
@[simp] theorem endCopy_capture (s : State) : (endCopy s).capture = s.capture := rfl
@[simp] theorem endCopy_outputs (s : State) : (endCopy s).outputs = s.outputs := rfl
@[simp] theorem endCopy_roles (s : State) : (endCopy s).roles = s.roles := rfl
@[simp] theorem endCopy_wear (s : State) : (endCopy s).wear = s.wear := rfl
@[simp] theorem endCopy_attention (s : State) : (endCopy s).attention = s.attention := rfl
@[simp] theorem endCopy_port (s : State) : (endCopy s).port = s.port := rfl
@[simp] theorem endCopy_orders (s : State) : (endCopy s).orders = s.orders := rfl
@[simp] theorem endCopy_pending (s : State) : (endCopy s).pending = s.pending := rfl

/-! ## `raiseCounts` -/

@[simp] theorem raiseCounts_pins (s : State) : (raiseCounts s).pins = s.pins := rfl
@[simp] theorem raiseCounts_items (s : State) : (raiseCounts s).items = s.items := rfl
@[simp] theorem raiseCounts_link (s : State) : (raiseCounts s).link = s.link := rfl
@[simp] theorem raiseCounts_round (s : State) : (raiseCounts s).round = s.round := rfl
@[simp] theorem raiseCounts_peers (s : State) : (raiseCounts s).peers = s.peers := rfl
@[simp] theorem raiseCounts_share (s : State) : (raiseCounts s).share = s.share := rfl
@[simp] theorem raiseCounts_engine (s : State) : (raiseCounts s).engine = s.engine := rfl
@[simp] theorem raiseCounts_wheel (s : State) : (raiseCounts s).wheel = s.wheel := rfl
@[simp] theorem raiseCounts_capture (s : State) : (raiseCounts s).capture = s.capture := rfl
@[simp] theorem raiseCounts_outputs (s : State) : (raiseCounts s).outputs = s.outputs := rfl
@[simp] theorem raiseCounts_roles (s : State) : (raiseCounts s).roles = s.roles := rfl
@[simp] theorem raiseCounts_wear (s : State) : (raiseCounts s).wear = s.wear := rfl
@[simp] theorem raiseCounts_attention (s : State) : (raiseCounts s).attention = s.attention := rfl
@[simp] theorem raiseCounts_port (s : State) : (raiseCounts s).port = s.port := rfl
@[simp] theorem raiseCounts_orders (s : State) : (raiseCounts s).orders = s.orders := rfl
@[simp] theorem raiseCounts_pending (s : State) : (raiseCounts s).pending = s.pending := rfl

/-! ## `putSlot` -/

@[simp] theorem putSlot_pins (i : Fin 12) (r : WearRecord) (s : State) : (putSlot i r s).pins = s.pins := rfl
@[simp] theorem putSlot_items (i : Fin 12) (r : WearRecord) (s : State) : (putSlot i r s).items = s.items := rfl
@[simp] theorem putSlot_link (i : Fin 12) (r : WearRecord) (s : State) : (putSlot i r s).link = s.link := rfl
@[simp] theorem putSlot_round (i : Fin 12) (r : WearRecord) (s : State) : (putSlot i r s).round = s.round := rfl
@[simp] theorem putSlot_peers (i : Fin 12) (r : WearRecord) (s : State) : (putSlot i r s).peers = s.peers := rfl
@[simp] theorem putSlot_share (i : Fin 12) (r : WearRecord) (s : State) : (putSlot i r s).share = s.share := rfl
@[simp] theorem putSlot_ready (i : Fin 12) (r : WearRecord) (s : State) : (putSlot i r s).ready = s.ready := rfl
@[simp] theorem putSlot_engine (i : Fin 12) (r : WearRecord) (s : State) : (putSlot i r s).engine = s.engine := rfl
@[simp] theorem putSlot_wheel (i : Fin 12) (r : WearRecord) (s : State) : (putSlot i r s).wheel = s.wheel := rfl
@[simp] theorem putSlot_capture (i : Fin 12) (r : WearRecord) (s : State) : (putSlot i r s).capture = s.capture := rfl
@[simp] theorem putSlot_outputs (i : Fin 12) (r : WearRecord) (s : State) : (putSlot i r s).outputs = s.outputs := rfl
@[simp] theorem putSlot_roles (i : Fin 12) (r : WearRecord) (s : State) : (putSlot i r s).roles = s.roles := rfl
@[simp] theorem putSlot_attention (i : Fin 12) (r : WearRecord) (s : State) : (putSlot i r s).attention = s.attention := rfl
@[simp] theorem putSlot_port (i : Fin 12) (r : WearRecord) (s : State) : (putSlot i r s).port = s.port := rfl
@[simp] theorem putSlot_orders (i : Fin 12) (r : WearRecord) (s : State) : (putSlot i r s).orders = s.orders := rfl
@[simp] theorem putSlot_pending (i : Fin 12) (r : WearRecord) (s : State) : (putSlot i r s).pending = s.pending := rfl

/-! ## `settle` -/

@[simp] theorem settle_pins (o : Reply) (w : Bool) (s : State) : (settle o w s).pins = s.pins := rfl
@[simp] theorem settle_items (o : Reply) (w : Bool) (s : State) : (settle o w s).items = s.items := rfl
@[simp] theorem settle_link (o : Reply) (w : Bool) (s : State) : (settle o w s).link = s.link := rfl
@[simp] theorem settle_round (o : Reply) (w : Bool) (s : State) : (settle o w s).round = s.round := rfl
@[simp] theorem settle_peers (o : Reply) (w : Bool) (s : State) : (settle o w s).peers = s.peers := rfl
@[simp] theorem settle_share (o : Reply) (w : Bool) (s : State) : (settle o w s).share = s.share := rfl
@[simp] theorem settle_ready (o : Reply) (w : Bool) (s : State) : (settle o w s).ready = s.ready := rfl
@[simp] theorem settle_engine (o : Reply) (w : Bool) (s : State) : (settle o w s).engine = s.engine := rfl
@[simp] theorem settle_wheel (o : Reply) (w : Bool) (s : State) : (settle o w s).wheel = s.wheel := rfl
@[simp] theorem settle_capture (o : Reply) (w : Bool) (s : State) : (settle o w s).capture = s.capture := rfl
@[simp] theorem settle_outputs (o : Reply) (w : Bool) (s : State) : (settle o w s).outputs = s.outputs := rfl
@[simp] theorem settle_roles (o : Reply) (w : Bool) (s : State) : (settle o w s).roles = s.roles := rfl
@[simp] theorem settle_wear (o : Reply) (w : Bool) (s : State) : (settle o w s).wear = s.wear := rfl
@[simp] theorem settle_attention (o : Reply) (w : Bool) (s : State) : (settle o w s).attention = s.attention := rfl
@[simp] theorem settle_orders (o : Reply) (w : Bool) (s : State) : (settle o w s).orders = s.orders := rfl
@[simp] theorem settle_pending (o : Reply) (w : Bool) (s : State) : (settle o w s).pending = s.pending := rfl

/-! ## `openSelect` -/

@[simp] theorem openSelect_pins (s : State) : (openSelect s).pins = s.pins := rfl
@[simp] theorem openSelect_items (s : State) : (openSelect s).items = s.items := rfl
@[simp] theorem openSelect_link (s : State) : (openSelect s).link = s.link := rfl
@[simp] theorem openSelect_round (s : State) : (openSelect s).round = s.round := rfl
@[simp] theorem openSelect_peers (s : State) : (openSelect s).peers = s.peers := rfl
@[simp] theorem openSelect_share (s : State) : (openSelect s).share = s.share := rfl
@[simp] theorem openSelect_ready (s : State) : (openSelect s).ready = s.ready := rfl
@[simp] theorem openSelect_engine (s : State) : (openSelect s).engine = s.engine := rfl
@[simp] theorem openSelect_wheel (s : State) : (openSelect s).wheel = s.wheel := rfl
@[simp] theorem openSelect_capture (s : State) : (openSelect s).capture = s.capture := rfl
@[simp] theorem openSelect_outputs (s : State) : (openSelect s).outputs = s.outputs := rfl
@[simp] theorem openSelect_roles (s : State) : (openSelect s).roles = s.roles := rfl
@[simp] theorem openSelect_wear (s : State) : (openSelect s).wear = s.wear := rfl
@[simp] theorem openSelect_attention (s : State) : (openSelect s).attention = s.attention := rfl
@[simp] theorem openSelect_orders (s : State) : (openSelect s).orders = s.orders := rfl
@[simp] theorem openSelect_pending (s : State) : (openSelect s).pending = s.pending := rfl

/-! ## `withReadiness` -/

@[simp] theorem withReadiness_pins (r : Readiness) (s : State) : (withReadiness r s).pins = s.pins := rfl
@[simp] theorem withReadiness_items (r : Readiness) (s : State) : (withReadiness r s).items = s.items := rfl
@[simp] theorem withReadiness_link (r : Readiness) (s : State) : (withReadiness r s).link = s.link := rfl
@[simp] theorem withReadiness_round (r : Readiness) (s : State) : (withReadiness r s).round = s.round := rfl
@[simp] theorem withReadiness_peers (r : Readiness) (s : State) : (withReadiness r s).peers = s.peers := rfl
@[simp] theorem withReadiness_share (r : Readiness) (s : State) : (withReadiness r s).share = s.share := rfl
@[simp] theorem withReadiness_engine (r : Readiness) (s : State) : (withReadiness r s).engine = s.engine := rfl
@[simp] theorem withReadiness_wheel (r : Readiness) (s : State) : (withReadiness r s).wheel = s.wheel := rfl
@[simp] theorem withReadiness_capture (r : Readiness) (s : State) : (withReadiness r s).capture = s.capture := rfl
@[simp] theorem withReadiness_outputs (r : Readiness) (s : State) : (withReadiness r s).outputs = s.outputs := rfl
@[simp] theorem withReadiness_wear (r : Readiness) (s : State) : (withReadiness r s).wear = s.wear := rfl
@[simp] theorem withReadiness_attention (r : Readiness) (s : State) : (withReadiness r s).attention = s.attention := rfl
@[simp] theorem withReadiness_port (r : Readiness) (s : State) : (withReadiness r s).port = s.port := rfl
@[simp] theorem withReadiness_orders (r : Readiness) (s : State) : (withReadiness r s).orders = s.orders := rfl
@[simp] theorem withReadiness_pending (r : Readiness) (s : State) : (withReadiness r s).pending = s.pending := rfl
@[simp] theorem withReadiness_ready (r : Readiness) (s : State) :
    (withReadiness r s).ready = { s.ready with state := r, limitOverride := overrideAt r s.ready.limitOverride } := rfl
@[simp] theorem withReadiness_roles (r : Readiness) (s : State) :
    (withReadiness r s).roles = { s.roles with demand := restDemand r s } := rfl

/-! ## `returnLink` -/

@[simp] theorem returnLink_pins (s : State) : (returnLink s).pins = s.pins := rfl
@[simp] theorem returnLink_items (s : State) : (returnLink s).items = s.items := rfl
@[simp] theorem returnLink_round (s : State) : (returnLink s).round = s.round := rfl
@[simp] theorem returnLink_peers (s : State) : (returnLink s).peers = s.peers := rfl
@[simp] theorem returnLink_share (s : State) : (returnLink s).share = s.share := rfl
@[simp] theorem returnLink_ready (s : State) : (returnLink s).ready = s.ready := rfl
@[simp] theorem returnLink_engine (s : State) : (returnLink s).engine = s.engine := rfl
@[simp] theorem returnLink_wheel (s : State) : (returnLink s).wheel = s.wheel := rfl
@[simp] theorem returnLink_capture (s : State) : (returnLink s).capture = s.capture := rfl
@[simp] theorem returnLink_outputs (s : State) : (returnLink s).outputs = s.outputs := rfl
@[simp] theorem returnLink_wear (s : State) : (returnLink s).wear = s.wear := rfl
@[simp] theorem returnLink_attention (s : State) : (returnLink s).attention = s.attention := rfl
@[simp] theorem returnLink_port (s : State) : (returnLink s).port = s.port := rfl
@[simp] theorem returnLink_orders (s : State) : (returnLink s).orders = s.orders := rfl
@[simp] theorem returnLink_pending (s : State) : (returnLink s).pending = s.pending := rfl
@[simp] theorem returnLink_link (s : State) : (returnLink s).link = { s.link with state := .active } := rfl
@[simp] theorem returnLink_roles (s : State) :
    (returnLink s).roles =
      { s.roles with traction := { s.roles.traction with awaiting := decide (s.role = .traction) } } := rfl

/-! ## `joinBoundary` -/

@[simp] theorem joinBoundary_pins (s : State) : (joinBoundary s).pins = s.pins := rfl
@[simp] theorem joinBoundary_items (s : State) : (joinBoundary s).items = s.items := rfl
@[simp] theorem joinBoundary_link (s : State) : (joinBoundary s).link = s.link := rfl
@[simp] theorem joinBoundary_peers (s : State) : (joinBoundary s).peers = s.peers := rfl
@[simp] theorem joinBoundary_share (s : State) : (joinBoundary s).share = s.share := rfl
@[simp] theorem joinBoundary_ready (s : State) : (joinBoundary s).ready = s.ready := rfl
@[simp] theorem joinBoundary_engine (s : State) : (joinBoundary s).engine = s.engine := rfl
@[simp] theorem joinBoundary_wheel (s : State) : (joinBoundary s).wheel = s.wheel := rfl
@[simp] theorem joinBoundary_capture (s : State) : (joinBoundary s).capture = s.capture := rfl
@[simp] theorem joinBoundary_outputs (s : State) : (joinBoundary s).outputs = s.outputs := rfl
@[simp] theorem joinBoundary_roles (s : State) : (joinBoundary s).roles = s.roles := rfl
@[simp] theorem joinBoundary_wear (s : State) : (joinBoundary s).wear = s.wear := rfl
@[simp] theorem joinBoundary_attention (s : State) : (joinBoundary s).attention = s.attention := rfl
@[simp] theorem joinBoundary_port (s : State) : (joinBoundary s).port = s.port := rfl
@[simp] theorem joinBoundary_orders (s : State) : (joinBoundary s).orders = s.orders := rfl
@[simp] theorem joinBoundary_pending (s : State) : (joinBoundary s).pending = s.pending := rfl
@[simp] theorem joinBoundary_round (s : State) :
    (joinBoundary s).round =
      { s.round with boundary := if s.round.phase = 0 then longWait s.round.period else s.round.boundary } := rfl

/-! ## `answerPoint` -/

@[simp] theorem answerPoint_pins (q : Request) (s : State) : (answerPoint q s).pins = s.pins := rfl
@[simp] theorem answerPoint_items (q : Request) (s : State) : (answerPoint q s).items = s.items := rfl
@[simp] theorem answerPoint_link (q : Request) (s : State) : (answerPoint q s).link = s.link := rfl
@[simp] theorem answerPoint_round (q : Request) (s : State) : (answerPoint q s).round = s.round := rfl
@[simp] theorem answerPoint_peers (q : Request) (s : State) : (answerPoint q s).peers = s.peers := rfl
@[simp] theorem answerPoint_share (q : Request) (s : State) : (answerPoint q s).share = s.share := rfl
@[simp] theorem answerPoint_ready (q : Request) (s : State) : (answerPoint q s).ready = s.ready := rfl
@[simp] theorem answerPoint_engine (q : Request) (s : State) : (answerPoint q s).engine = s.engine := rfl
@[simp] theorem answerPoint_wheel (q : Request) (s : State) : (answerPoint q s).wheel = s.wheel := rfl
@[simp] theorem answerPoint_capture (q : Request) (s : State) : (answerPoint q s).capture = s.capture := rfl
@[simp] theorem answerPoint_outputs (q : Request) (s : State) : (answerPoint q s).outputs = s.outputs := rfl
@[simp] theorem answerPoint_roles (q : Request) (s : State) : (answerPoint q s).roles = s.roles := rfl
@[simp] theorem answerPoint_wear (q : Request) (s : State) : (answerPoint q s).wear = s.wear := rfl
@[simp] theorem answerPoint_attention (q : Request) (s : State) : (answerPoint q s).attention = s.attention := rfl
@[simp] theorem answerPoint_orders (q : Request) (s : State) : (answerPoint q s).orders = s.orders := rfl
@[simp] theorem answerPoint_pending (q : Request) (s : State) : (answerPoint q s).pending = s.pending := rfl

/-! ## `endShort` -/

@[simp] theorem endShort_pins (s : State) : (endShort s).pins = s.pins := rfl
@[simp] theorem endShort_items (s : State) : (endShort s).items = s.items := rfl
@[simp] theorem endShort_link (s : State) : (endShort s).link = s.link := rfl
@[simp] theorem endShort_round (s : State) : (endShort s).round = s.round := rfl
@[simp] theorem endShort_peers (s : State) : (endShort s).peers = s.peers := rfl
@[simp] theorem endShort_share (s : State) : (endShort s).share = s.share := rfl
@[simp] theorem endShort_ready (s : State) : (endShort s).ready = s.ready := rfl
@[simp] theorem endShort_engine (s : State) : (endShort s).engine = s.engine := rfl
@[simp] theorem endShort_wheel (s : State) : (endShort s).wheel = s.wheel := rfl
@[simp] theorem endShort_capture (s : State) : (endShort s).capture = s.capture := rfl
@[simp] theorem endShort_outputs (s : State) : (endShort s).outputs = s.outputs := rfl
@[simp] theorem endShort_roles (s : State) : (endShort s).roles = s.roles := rfl
@[simp] theorem endShort_wear (s : State) : (endShort s).wear = s.wear := rfl
@[simp] theorem endShort_attention (s : State) : (endShort s).attention = s.attention := rfl
@[simp] theorem endShort_orders (s : State) : (endShort s).orders = s.orders := rfl
@[simp] theorem endShort_pending (s : State) : (endShort s).pending = s.pending := rfl

/-! ## `State.withPending` and the step -/

@[simp] theorem withPending_pending (s : State) (q : List Instr) : (s.withPending q).pending = q := rfl

@[simp] theorem step_idle (s : State) (h : s.pending = []) : step s = .next (tick s) := by
  unfold step; rw [h]

@[simp] theorem step_front (s : State) (c : Instr) (rest : List Instr) (h : s.pending = c :: rest) :
    step s = exec c (s.withPending rest) := by
  unfold step; rw [h]

/-! ## Vectors with one entry changed -/

theorem alter_get {α : Type} {n : Nat} (v : Vector α n) (i j : Fin n) (f : α → α) :
    (alter v i f)[j] = if j = i then f v[j] else v[j] := by
  simp [alter]

theorem alter_same {α : Type} {n : Nat} (v : Vector α n) (i : Fin n) (f : α → α) : (alter v i f)[i] = f v[i] := by
  rw [alter_get, if_pos rfl]

theorem alter_other {α : Type} {n : Nat} (v : Vector α n) {i j : Fin n} (f : α → α) (h : j ≠ i) : (alter v i f)[j] = v[j] := by
  rw [alter_get, if_neg h]

/-- Two vectors are equal when they agree at every place. -/
theorem vector_ext {α : Type} {n : Nat} {v w : Vector α n} (h : ∀ i : Fin n, v[i] = w[i]) : v = w := by
  apply Vector.ext
  intro i hi
  exact h ⟨i, hi⟩

@[simp] theorem mapRecords_get (f : WearRecord → WearRecord) (v : Vector (Option WearRecord) 12) (i : Fin 12) :
    (mapRecords f v)[i] = (v[i]).map f := by
  simp [mapRecords]

/-! ## The two outputs, the two windows, the outbox -/

@[simp] theorem outputs_get_put (u : Outputs) (n : OutName) (o : Output) : (u.put n o).get n = o := by cases n <;> rfl

theorem outputs_get_put_other (u : Outputs) {n m : OutName} (o : Output) (h : m ≠ n) : (u.put n o).get m = u.get m := by
  cases n <;> cases m <;> first | rfl | exact absurd rfl h

@[simp] theorem outputs_put_put (u : Outputs) (n : OutName) (o p : Output) : (u.put n o).put n p = u.put n p := by cases n <;> rfl

@[simp] theorem outputs_put_get (u : Outputs) (n : OutName) : u.put n (u.get n) = u := by cases n <;> rfl

@[simp] theorem outputs_put_lines (u : Outputs) (n : OutName) (o : Output) : (u.put n o).lines = u.lines := by cases n <;> rfl

@[simp] theorem outputs_put_soft (u : Outputs) (n : OutName) (o : Output) : (u.put n o).soft = u.soft := by cases n <;> rfl

@[simp] theorem outputs_put_snapshot (u : Outputs) (n : OutName) (o : Output) : (u.put n o).snapshot = u.snapshot := by
  cases n <;> rfl

@[simp] theorem capture_get_put (u : CaptureUnit) (n : CapName) (c : Capture) : (u.put n c).get n = c := by cases n <;> rfl

theorem capture_get_put_other (u : CaptureUnit) {n m : CapName} (c : Capture) (h : m ≠ n) : (u.put n c).get m = u.get m := by
  cases n <;> cases m <;> first | rfl | exact absurd rfl h

@[simp] theorem capture_put_micros (u : CaptureUnit) (n : CapName) (c : Capture) : (u.put n c).micros = u.micros := by cases n <;> rfl

@[simp] theorem capture_put_demod (u : CaptureUnit) (n : CapName) (c : Capture) : (u.put n c).demod = u.demod := by cases n <;> rfl

@[simp] theorem outbox_get_put (o : Outbox) (k : FrameKind) (x : Option Slot) : (o.put k x).get k = x := by cases k <;> rfl

theorem outbox_get_put_other (o : Outbox) {k j : FrameKind} (x : Option Slot) (h : j ≠ k) : (o.put k x).get j = o.get j := by
  cases k <;> cases j <;> first | rfl | exact absurd rfl h

@[simp] theorem windowOf_putWindow (k : CeaseKind) (w : Window) (s : State) : windowOf (putWindow k w s) k = w := by cases k <;> rfl

theorem windowOf_putWindow_other {k j : CeaseKind} (w : Window) (s : State) (h : j ≠ k) :
    windowOf (putWindow k w s) j = windowOf s j := by
  cases k <;> cases j <;> first | rfl | exact absurd rfl h

/-! ## Attention -/

@[simp] theorem raiseIf_false (a : Attn) (s : State) : raiseIf false a s = s := rfl

@[simp] theorem raiseIf_true (a : Attn) (s : State) : raiseIf true a s = raise a s := rfl

theorem raise_adds (a : Attn) (s : State) : (raise a s).attention.pending = s.attention.pending ||| attnMask a := rfl

/-! ## Figures brought into range (R3) -/

theorem bring_low {lo hi x : Int} (h : lo ≤ hi) : lo ≤ bring lo hi x := by
  unfold bring; split; · omega
  · split <;> omega

theorem bring_high {lo hi x : Int} (h : lo ≤ hi) : bring lo hi x ≤ hi := by
  unfold bring; split; · omega
  · split <;> omega

theorem bring_inside {lo hi x : Int} (h1 : lo ≤ x) (h2 : x ≤ hi) : bring lo hi x = x := by
  unfold bring; rw [if_neg (by omega), if_neg (by omega)]

theorem bringNat_low {lo hi x : Nat} (h : lo ≤ hi) : lo ≤ bringNat lo hi x := by
  unfold bringNat; split; · omega
  · split <;> omega

theorem bringNat_high {lo hi x : Nat} (h : lo ≤ hi) : bringNat lo hi x ≤ hi := by
  unfold bringNat; split; · omega
  · split <;> omega

theorem bringNat_inside {lo hi x : Nat} (h1 : lo ≤ x) (h2 : x ≤ hi) : bringNat lo hi x = x := by
  unfold bringNat; rw [if_neg (by omega), if_neg (by omega)]

end Sys2Proof.Machine
end

