-- ==== Sys2Proof/Laws/Ops.lean ====
section
/-! SUPPORT. The frame of every shared operation: which blocks of the state it leaves as they stood. A block that a frame does not name is one the operation may write. Proofs over the commands cite these lemmas in place of unfolding the operations. -/

namespace Sys2Proof.Machine

/-! ## A block through a choice, a run over a list and the gate -/

@[simp] theorem ite_pins (c : Prop) [Decidable c] (a b : State) : (if c then a else b).pins = if c then a.pins else b.pins := apply_ite State.pins c a b
@[simp] theorem ite_items (c : Prop) [Decidable c] (a b : State) : (if c then a else b).items = if c then a.items else b.items := apply_ite State.items c a b
@[simp] theorem ite_link (c : Prop) [Decidable c] (a b : State) : (if c then a else b).link = if c then a.link else b.link := apply_ite State.link c a b
@[simp] theorem ite_round (c : Prop) [Decidable c] (a b : State) : (if c then a else b).round = if c then a.round else b.round := apply_ite State.round c a b
@[simp] theorem ite_peers (c : Prop) [Decidable c] (a b : State) : (if c then a else b).peers = if c then a.peers else b.peers := apply_ite State.peers c a b
@[simp] theorem ite_share (c : Prop) [Decidable c] (a b : State) : (if c then a else b).share = if c then a.share else b.share := apply_ite State.share c a b
@[simp] theorem ite_ready (c : Prop) [Decidable c] (a b : State) : (if c then a else b).ready = if c then a.ready else b.ready := apply_ite State.ready c a b
@[simp] theorem ite_engine (c : Prop) [Decidable c] (a b : State) : (if c then a else b).engine = if c then a.engine else b.engine := apply_ite State.engine c a b
@[simp] theorem ite_wheel (c : Prop) [Decidable c] (a b : State) : (if c then a else b).wheel = if c then a.wheel else b.wheel := apply_ite State.wheel c a b
@[simp] theorem ite_capture (c : Prop) [Decidable c] (a b : State) : (if c then a else b).capture = if c then a.capture else b.capture := apply_ite State.capture c a b
@[simp] theorem ite_outputs (c : Prop) [Decidable c] (a b : State) : (if c then a else b).outputs = if c then a.outputs else b.outputs := apply_ite State.outputs c a b
@[simp] theorem ite_roles (c : Prop) [Decidable c] (a b : State) : (if c then a else b).roles = if c then a.roles else b.roles := apply_ite State.roles c a b
@[simp] theorem ite_wear (c : Prop) [Decidable c] (a b : State) : (if c then a else b).wear = if c then a.wear else b.wear := apply_ite State.wear c a b
@[simp] theorem ite_attention (c : Prop) [Decidable c] (a b : State) : (if c then a else b).attention = if c then a.attention else b.attention := apply_ite State.attention c a b
@[simp] theorem ite_port (c : Prop) [Decidable c] (a b : State) : (if c then a else b).port = if c then a.port else b.port := apply_ite State.port c a b
@[simp] theorem ite_orders (c : Prop) [Decidable c] (a b : State) : (if c then a else b).orders = if c then a.orders else b.orders := apply_ite State.orders c a b
@[simp] theorem ite_pending (c : Prop) [Decidable c] (a b : State) : (if c then a else b).pending = if c then a.pending else b.pending := apply_ite State.pending c a b

/-- A run over a list keeps what each of its turns keeps. -/
theorem foldl_keeps {α β γ : Type} (g : α → γ) (f : α → β → α) (h : ∀ a b, g (f a b) = g a) (l : List β) (a : α) :
    g (l.foldl f a) = g a := by
  induction l generalizing a with
  | nil => rfl
  | cons b l ih => rw [List.foldl_cons, ih, h]

/-- The gate's onset writes the outputs alone, so an operation under it keeps what the operation keeps (R117). -/
theorem gated_keeps {γ : Type} (g : State → γ) (hg : ∀ s, g (gateOnset s) = g s) (f : State → State) (s : State)
    (h : g (f s) = g s) : g (gated f s) = g s := by
  unfold gated
  dsimp only
  split
  · rw [hg, h]
  · exact h

@[simp] theorem foldl_pins {β : Type} (f : State → β → State) (l : List β) (s : State) (h : ∀ t b, (f t b).pins = t.pins) :
    (l.foldl f s).pins = s.pins := foldl_keeps State.pins f h l s
@[simp] theorem foldl_items {β : Type} (f : State → β → State) (l : List β) (s : State) (h : ∀ t b, (f t b).items = t.items) :
    (l.foldl f s).items = s.items := foldl_keeps State.items f h l s
@[simp] theorem foldl_link {β : Type} (f : State → β → State) (l : List β) (s : State) (h : ∀ t b, (f t b).link = t.link) :
    (l.foldl f s).link = s.link := foldl_keeps State.link f h l s
@[simp] theorem foldl_round {β : Type} (f : State → β → State) (l : List β) (s : State) (h : ∀ t b, (f t b).round = t.round) :
    (l.foldl f s).round = s.round := foldl_keeps State.round f h l s
@[simp] theorem foldl_peers {β : Type} (f : State → β → State) (l : List β) (s : State) (h : ∀ t b, (f t b).peers = t.peers) :
    (l.foldl f s).peers = s.peers := foldl_keeps State.peers f h l s
@[simp] theorem foldl_share {β : Type} (f : State → β → State) (l : List β) (s : State) (h : ∀ t b, (f t b).share = t.share) :
    (l.foldl f s).share = s.share := foldl_keeps State.share f h l s
@[simp] theorem foldl_ready {β : Type} (f : State → β → State) (l : List β) (s : State) (h : ∀ t b, (f t b).ready = t.ready) :
    (l.foldl f s).ready = s.ready := foldl_keeps State.ready f h l s
@[simp] theorem foldl_engine {β : Type} (f : State → β → State) (l : List β) (s : State) (h : ∀ t b, (f t b).engine = t.engine) :
    (l.foldl f s).engine = s.engine := foldl_keeps State.engine f h l s
@[simp] theorem foldl_wheel {β : Type} (f : State → β → State) (l : List β) (s : State) (h : ∀ t b, (f t b).wheel = t.wheel) :
    (l.foldl f s).wheel = s.wheel := foldl_keeps State.wheel f h l s
@[simp] theorem foldl_capture {β : Type} (f : State → β → State) (l : List β) (s : State) (h : ∀ t b, (f t b).capture = t.capture) :
    (l.foldl f s).capture = s.capture := foldl_keeps State.capture f h l s
@[simp] theorem foldl_outputs {β : Type} (f : State → β → State) (l : List β) (s : State) (h : ∀ t b, (f t b).outputs = t.outputs) :
    (l.foldl f s).outputs = s.outputs := foldl_keeps State.outputs f h l s
@[simp] theorem foldl_roles {β : Type} (f : State → β → State) (l : List β) (s : State) (h : ∀ t b, (f t b).roles = t.roles) :
    (l.foldl f s).roles = s.roles := foldl_keeps State.roles f h l s
@[simp] theorem foldl_wear {β : Type} (f : State → β → State) (l : List β) (s : State) (h : ∀ t b, (f t b).wear = t.wear) :
    (l.foldl f s).wear = s.wear := foldl_keeps State.wear f h l s
@[simp] theorem foldl_attention {β : Type} (f : State → β → State) (l : List β) (s : State) (h : ∀ t b, (f t b).attention = t.attention) :
    (l.foldl f s).attention = s.attention := foldl_keeps State.attention f h l s
@[simp] theorem foldl_port {β : Type} (f : State → β → State) (l : List β) (s : State) (h : ∀ t b, (f t b).port = t.port) :
    (l.foldl f s).port = s.port := foldl_keeps State.port f h l s
@[simp] theorem foldl_orders {β : Type} (f : State → β → State) (l : List β) (s : State) (h : ∀ t b, (f t b).orders = t.orders) :
    (l.foldl f s).orders = s.orders := foldl_keeps State.orders f h l s
@[simp] theorem foldl_pending {β : Type} (f : State → β → State) (l : List β) (s : State) (h : ∀ t b, (f t b).pending = t.pending) :
    (l.foldl f s).pending = s.pending := foldl_keeps State.pending f h l s

@[simp] theorem gated_pins (f : State → State) (s : State) (h : (f s).pins = s.pins) : (gated f s).pins = s.pins :=
  gated_keeps State.pins (fun _ => rfl) f s h
@[simp] theorem gated_items (f : State → State) (s : State) (h : (f s).items = s.items) : (gated f s).items = s.items :=
  gated_keeps State.items (fun _ => rfl) f s h
@[simp] theorem gated_link (f : State → State) (s : State) (h : (f s).link = s.link) : (gated f s).link = s.link :=
  gated_keeps State.link (fun _ => rfl) f s h
@[simp] theorem gated_round (f : State → State) (s : State) (h : (f s).round = s.round) : (gated f s).round = s.round :=
  gated_keeps State.round (fun _ => rfl) f s h
@[simp] theorem gated_peers (f : State → State) (s : State) (h : (f s).peers = s.peers) : (gated f s).peers = s.peers :=
  gated_keeps State.peers (fun _ => rfl) f s h
@[simp] theorem gated_share (f : State → State) (s : State) (h : (f s).share = s.share) : (gated f s).share = s.share :=
  gated_keeps State.share (fun _ => rfl) f s h
@[simp] theorem gated_ready (f : State → State) (s : State) (h : (f s).ready = s.ready) : (gated f s).ready = s.ready :=
  gated_keeps State.ready (fun _ => rfl) f s h
@[simp] theorem gated_engine (f : State → State) (s : State) (h : (f s).engine = s.engine) : (gated f s).engine = s.engine :=
  gated_keeps State.engine (fun _ => rfl) f s h
@[simp] theorem gated_wheel (f : State → State) (s : State) (h : (f s).wheel = s.wheel) : (gated f s).wheel = s.wheel :=
  gated_keeps State.wheel (fun _ => rfl) f s h
@[simp] theorem gated_capture (f : State → State) (s : State) (h : (f s).capture = s.capture) : (gated f s).capture = s.capture :=
  gated_keeps State.capture (fun _ => rfl) f s h
@[simp] theorem gated_roles (f : State → State) (s : State) (h : (f s).roles = s.roles) : (gated f s).roles = s.roles :=
  gated_keeps State.roles (fun _ => rfl) f s h
@[simp] theorem gated_wear (f : State → State) (s : State) (h : (f s).wear = s.wear) : (gated f s).wear = s.wear :=
  gated_keeps State.wear (fun _ => rfl) f s h
@[simp] theorem gated_attention (f : State → State) (s : State) (h : (f s).attention = s.attention) : (gated f s).attention = s.attention :=
  gated_keeps State.attention (fun _ => rfl) f s h
@[simp] theorem gated_port (f : State → State) (s : State) (h : (f s).port = s.port) : (gated f s).port = s.port :=
  gated_keeps State.port (fun _ => rfl) f s h
@[simp] theorem gated_orders (f : State → State) (s : State) (h : (f s).orders = s.orders) : (gated f s).orders = s.orders :=
  gated_keeps State.orders (fun _ => rfl) f s h
@[simp] theorem gated_pending (f : State → State) (s : State) (h : (f s).pending = s.pending) : (gated f s).pending = s.pending :=
  gated_keeps State.pending (fun _ => rfl) f s h

/-! ## Readings and the smallest operations -/

@[simp] theorem judgeSurplus_frame (roles : List Role) (s : State) :
    (judgeSurplus roles s).pins = s.pins ∧ (judgeSurplus roles s).items = s.items ∧ (judgeSurplus roles s).link = s.link ∧
    (judgeSurplus roles s).round = s.round ∧ (judgeSurplus roles s).share = s.share ∧ (judgeSurplus roles s).ready = s.ready ∧
    (judgeSurplus roles s).engine = s.engine ∧ (judgeSurplus roles s).wheel = s.wheel ∧
    (judgeSurplus roles s).capture = s.capture ∧ (judgeSurplus roles s).outputs = s.outputs ∧
    (judgeSurplus roles s).roles = s.roles ∧ (judgeSurplus roles s).wear = s.wear ∧ (judgeSurplus roles s).port = s.port ∧
    (judgeSurplus roles s).orders = s.orders ∧ (judgeSurplus roles s).pending = s.pending := by
  unfold judgeSurplus; simp
@[simp] theorem placeState_frame (s : State) :
    (placeState s).pins = s.pins ∧ (placeState s).items = s.items ∧ (placeState s).round = s.round ∧
    (placeState s).peers = s.peers ∧ (placeState s).share = s.share ∧ (placeState s).ready = s.ready ∧
    (placeState s).engine = s.engine ∧ (placeState s).wheel = s.wheel ∧ (placeState s).capture = s.capture ∧
    (placeState s).outputs = s.outputs ∧ (placeState s).roles = s.roles ∧ (placeState s).wear = s.wear ∧
    (placeState s).attention = s.attention ∧ (placeState s).port = s.port ∧ (placeState s).orders = s.orders ∧
    (placeState s).pending = s.pending := by
  unfold placeState; simp

/-! ## Limits and the friction write -/

@[simp] theorem writeFriction_frame (s : State) :
    (writeFriction s).pins = s.pins ∧ (writeFriction s).items = s.items ∧ (writeFriction s).link = s.link ∧
    (writeFriction s).round = s.round ∧ (writeFriction s).peers = s.peers ∧ (writeFriction s).share = s.share ∧
    (writeFriction s).ready = s.ready ∧ (writeFriction s).engine = s.engine ∧ (writeFriction s).wheel = s.wheel ∧
    (writeFriction s).capture = s.capture ∧ (writeFriction s).roles = s.roles ∧ (writeFriction s).wear = s.wear ∧
    (writeFriction s).attention = s.attention ∧ (writeFriction s).port = s.port ∧ (writeFriction s).orders = s.orders ∧
    (writeFriction s).pending = s.pending := by
  unfold writeFriction; simp
@[simp] theorem formBrake_frame (s : State) :
    (formBrake s).pins = s.pins ∧ (formBrake s).items = s.items ∧ (formBrake s).link = s.link ∧ (formBrake s).round = s.round ∧
    (formBrake s).peers = s.peers ∧ (formBrake s).share = s.share ∧ (formBrake s).ready = s.ready ∧
    (formBrake s).engine = s.engine ∧ (formBrake s).wheel = s.wheel ∧ (formBrake s).capture = s.capture ∧
    (formBrake s).wear = s.wear ∧ (formBrake s).attention = s.attention ∧ (formBrake s).port = s.port ∧
    (formBrake s).orders = s.orders ∧ (formBrake s).pending = s.pending := by
  unfold formBrake; simp
@[simp] theorem formBrakeHere_frame (s : State) :
    (formBrakeHere s).pins = s.pins ∧ (formBrakeHere s).items = s.items ∧ (formBrakeHere s).link = s.link ∧
    (formBrakeHere s).round = s.round ∧ (formBrakeHere s).peers = s.peers ∧ (formBrakeHere s).share = s.share ∧
    (formBrakeHere s).ready = s.ready ∧ (formBrakeHere s).engine = s.engine ∧ (formBrakeHere s).wheel = s.wheel ∧
    (formBrakeHere s).capture = s.capture ∧ (formBrakeHere s).wear = s.wear ∧ (formBrakeHere s).attention = s.attention ∧
    (formBrakeHere s).port = s.port ∧ (formBrakeHere s).orders = s.orders ∧ (formBrakeHere s).pending = s.pending := by
  unfold formBrakeHere; simp
@[simp] theorem deriveLimits_frame (s : State) :
    (deriveLimits s).pins = s.pins ∧ (deriveLimits s).items = s.items ∧ (deriveLimits s).link = s.link ∧
    (deriveLimits s).round = s.round ∧ (deriveLimits s).peers = s.peers ∧ (deriveLimits s).share = s.share ∧
    (deriveLimits s).engine = s.engine ∧ (deriveLimits s).wheel = s.wheel ∧ (deriveLimits s).capture = s.capture ∧
    (deriveLimits s).wear = s.wear ∧ (deriveLimits s).attention = s.attention ∧ (deriveLimits s).port = s.port ∧
    (deriveLimits s).orders = s.orders ∧ (deriveLimits s).pending = s.pending := by
  unfold deriveLimits; simp

/-! ## Wear -/

@[simp] theorem closeSegment_frame (s : State) :
    (closeSegment s).pins = s.pins ∧ (closeSegment s).items = s.items ∧ (closeSegment s).link = s.link ∧
    (closeSegment s).round = s.round ∧ (closeSegment s).peers = s.peers ∧ (closeSegment s).share = s.share ∧
    (closeSegment s).ready = s.ready ∧ (closeSegment s).engine = s.engine ∧ (closeSegment s).wheel = s.wheel ∧
    (closeSegment s).capture = s.capture ∧ (closeSegment s).outputs = s.outputs ∧ (closeSegment s).roles = s.roles ∧
    (closeSegment s).attention = s.attention ∧ (closeSegment s).port = s.port ∧ (closeSegment s).orders = s.orders ∧
    (closeSegment s).pending = s.pending := by
  unfold closeSegment; simp
@[simp] theorem refreshGates_frame (judge : Bool) (s : State) :
    (refreshGates judge s).pins = s.pins ∧ (refreshGates judge s).items = s.items ∧ (refreshGates judge s).link = s.link ∧
    (refreshGates judge s).round = s.round ∧ (refreshGates judge s).peers = s.peers ∧ (refreshGates judge s).share = s.share ∧
    (refreshGates judge s).ready = s.ready ∧ (refreshGates judge s).engine = s.engine ∧
    (refreshGates judge s).wheel = s.wheel ∧ (refreshGates judge s).capture = s.capture ∧
    (refreshGates judge s).outputs = s.outputs ∧ (refreshGates judge s).roles = s.roles ∧
    (refreshGates judge s).attention = s.attention ∧ (refreshGates judge s).port = s.port ∧
    (refreshGates judge s).orders = s.orders ∧ (refreshGates judge s).pending = s.pending := by
  unfold refreshGates; simp
@[simp] theorem placeWarn_frame (s : State) :
    (placeWarn s).pins = s.pins ∧ (placeWarn s).items = s.items ∧ (placeWarn s).round = s.round ∧
    (placeWarn s).peers = s.peers ∧ (placeWarn s).share = s.share ∧ (placeWarn s).ready = s.ready ∧
    (placeWarn s).engine = s.engine ∧ (placeWarn s).wheel = s.wheel ∧ (placeWarn s).capture = s.capture ∧
    (placeWarn s).outputs = s.outputs ∧ (placeWarn s).roles = s.roles ∧ (placeWarn s).attention = s.attention ∧
    (placeWarn s).port = s.port ∧ (placeWarn s).orders = s.orders ∧ (placeWarn s).pending = s.pending := by
  unfold placeWarn; simp
@[simp] theorem sourceChanged_frame (src : Source) (l : Level) (s : State) :
    (sourceChanged src l s).pins = s.pins ∧ (sourceChanged src l s).items = s.items ∧ (sourceChanged src l s).round = s.round ∧
    (sourceChanged src l s).peers = s.peers ∧ (sourceChanged src l s).share = s.share ∧
    (sourceChanged src l s).ready = s.ready ∧ (sourceChanged src l s).engine = s.engine ∧
    (sourceChanged src l s).wheel = s.wheel ∧ (sourceChanged src l s).capture = s.capture ∧
    (sourceChanged src l s).outputs = s.outputs ∧ (sourceChanged src l s).roles = s.roles ∧
    (sourceChanged src l s).port = s.port ∧ (sourceChanged src l s).orders = s.orders ∧
    (sourceChanged src l s).pending = s.pending := by
  unfold sourceChanged; simp
@[simp] theorem reportDeficit_frame (on : Bool) (s : State) :
    (reportDeficit on s).pins = s.pins ∧ (reportDeficit on s).items = s.items ∧ (reportDeficit on s).round = s.round ∧
    (reportDeficit on s).peers = s.peers ∧ (reportDeficit on s).share = s.share ∧ (reportDeficit on s).ready = s.ready ∧
    (reportDeficit on s).engine = s.engine ∧ (reportDeficit on s).wheel = s.wheel ∧ (reportDeficit on s).capture = s.capture ∧
    (reportDeficit on s).outputs = s.outputs ∧ (reportDeficit on s).roles = s.roles ∧ (reportDeficit on s).port = s.port ∧
    (reportDeficit on s).orders = s.orders ∧ (reportDeficit on s).pending = s.pending := by
  unfold reportDeficit; simp
@[simp] theorem reportIsolation_frame (on : Bool) (s : State) :
    (reportIsolation on s).pins = s.pins ∧ (reportIsolation on s).items = s.items ∧ (reportIsolation on s).round = s.round ∧
    (reportIsolation on s).peers = s.peers ∧ (reportIsolation on s).share = s.share ∧ (reportIsolation on s).ready = s.ready ∧
    (reportIsolation on s).engine = s.engine ∧ (reportIsolation on s).wheel = s.wheel ∧
    (reportIsolation on s).capture = s.capture ∧ (reportIsolation on s).outputs = s.outputs ∧
    (reportIsolation on s).roles = s.roles ∧ (reportIsolation on s).port = s.port ∧ (reportIsolation on s).orders = s.orders ∧
    (reportIsolation on s).pending = s.pending := by
  unfold reportIsolation; simp
@[simp] theorem reformFactor_frame (s : State) :
    (reformFactor s).pins = s.pins ∧ (reformFactor s).items = s.items ∧ (reformFactor s).link = s.link ∧
    (reformFactor s).round = s.round ∧ (reformFactor s).peers = s.peers ∧ (reformFactor s).share = s.share ∧
    (reformFactor s).engine = s.engine ∧ (reformFactor s).wheel = s.wheel ∧ (reformFactor s).capture = s.capture ∧
    (reformFactor s).attention = s.attention ∧ (reformFactor s).port = s.port ∧ (reformFactor s).orders = s.orders ∧
    (reformFactor s).pending = s.pending := by
  unfold reformFactor; simp
@[simp] theorem setLevel_frame (i : Fin 12) (l : Level) (s : State) :
    (setLevel i l s).pins = s.pins ∧ (setLevel i l s).items = s.items ∧ (setLevel i l s).round = s.round ∧
    (setLevel i l s).peers = s.peers ∧ (setLevel i l s).share = s.share ∧ (setLevel i l s).engine = s.engine ∧
    (setLevel i l s).wheel = s.wheel ∧ (setLevel i l s).capture = s.capture ∧ (setLevel i l s).port = s.port ∧
    (setLevel i l s).orders = s.orders ∧ (setLevel i l s).pending = s.pending := by
  unfold setLevel; (repeat' split) <;> simp
@[simp] theorem judgeSlot_frame (i : Fin 12) (s : State) :
    (judgeSlot i s).pins = s.pins ∧ (judgeSlot i s).items = s.items ∧ (judgeSlot i s).round = s.round ∧
    (judgeSlot i s).peers = s.peers ∧ (judgeSlot i s).share = s.share ∧ (judgeSlot i s).engine = s.engine ∧
    (judgeSlot i s).wheel = s.wheel ∧ (judgeSlot i s).capture = s.capture ∧ (judgeSlot i s).port = s.port ∧
    (judgeSlot i s).orders = s.orders ∧ (judgeSlot i s).pending = s.pending := by
  unfold judgeSlot; (repeat' split) <;> simp
@[simp] theorem judgeSlots_frame (pick : Fin 12 → Bool) (s : State) :
    (judgeSlots pick s).pins = s.pins ∧ (judgeSlots pick s).items = s.items ∧ (judgeSlots pick s).round = s.round ∧
    (judgeSlots pick s).peers = s.peers ∧ (judgeSlots pick s).share = s.share ∧ (judgeSlots pick s).engine = s.engine ∧
    (judgeSlots pick s).wheel = s.wheel ∧ (judgeSlots pick s).capture = s.capture ∧ (judgeSlots pick s).port = s.port ∧
    (judgeSlots pick s).orders = s.orders ∧ (judgeSlots pick s).pending = s.pending := by
  unfold judgeSlots; simp
@[simp] theorem updateRecords_frame (pick : WearRecord → Bool) (f : WearRecord → WearRecord) (s : State) :
    (updateRecords pick f s).pins = s.pins ∧ (updateRecords pick f s).items = s.items ∧
    (updateRecords pick f s).round = s.round ∧ (updateRecords pick f s).peers = s.peers ∧
    (updateRecords pick f s).share = s.share ∧ (updateRecords pick f s).engine = s.engine ∧
    (updateRecords pick f s).wheel = s.wheel ∧ (updateRecords pick f s).capture = s.capture ∧
    (updateRecords pick f s).port = s.port ∧ (updateRecords pick f s).orders = s.orders ∧
    (updateRecords pick f s).pending = s.pending := by
  unfold updateRecords; simp
@[simp] theorem countEvent_frame (k : WearKind) (s : State) :
    (countEvent k s).pins = s.pins ∧ (countEvent k s).items = s.items ∧ (countEvent k s).round = s.round ∧
    (countEvent k s).peers = s.peers ∧ (countEvent k s).share = s.share ∧ (countEvent k s).engine = s.engine ∧
    (countEvent k s).wheel = s.wheel ∧ (countEvent k s).capture = s.capture ∧ (countEvent k s).port = s.port ∧
    (countEvent k s).orders = s.orders ∧ (countEvent k s).pending = s.pending := by
  unfold countEvent; simp
@[simp] theorem foldCarries_frame (s : State) :
    (foldCarries s).pins = s.pins ∧ (foldCarries s).items = s.items ∧ (foldCarries s).round = s.round ∧
    (foldCarries s).peers = s.peers ∧ (foldCarries s).share = s.share ∧ (foldCarries s).engine = s.engine ∧
    (foldCarries s).wheel = s.wheel ∧ (foldCarries s).capture = s.capture ∧ (foldCarries s).port = s.port ∧
    (foldCarries s).orders = s.orders ∧ (foldCarries s).pending = s.pending := by
  unfold foldCarries; simp
@[simp] theorem addFigure_frame (k : WearKind) (n : Nat) (s : State) :
    (addFigure k n s).pins = s.pins ∧ (addFigure k n s).items = s.items ∧ (addFigure k n s).round = s.round ∧
    (addFigure k n s).peers = s.peers ∧ (addFigure k n s).share = s.share ∧ (addFigure k n s).engine = s.engine ∧
    (addFigure k n s).wheel = s.wheel ∧ (addFigure k n s).capture = s.capture ∧ (addFigure k n s).port = s.port ∧
    (addFigure k n s).orders = s.orders ∧ (addFigure k n s).pending = s.pending := by
  unfold addFigure; simp
@[simp] theorem takeReading_frame (kinds : List WearKind) (v : Int) (s : State) :
    (takeReading kinds v s).pins = s.pins ∧ (takeReading kinds v s).items = s.items ∧ (takeReading kinds v s).round = s.round ∧
    (takeReading kinds v s).peers = s.peers ∧ (takeReading kinds v s).share = s.share ∧
    (takeReading kinds v s).engine = s.engine ∧ (takeReading kinds v s).wheel = s.wheel ∧
    (takeReading kinds v s).capture = s.capture ∧ (takeReading kinds v s).port = s.port ∧
    (takeReading kinds v s).orders = s.orders ∧ (takeReading kinds v s).pending = s.pending := by
  unfold takeReading; simp
@[simp] theorem judgeSoc_frame (soc : Nat) (s : State) :
    (judgeSoc soc s).pins = s.pins ∧ (judgeSoc soc s).items = s.items ∧ (judgeSoc soc s).round = s.round ∧
    (judgeSoc soc s).peers = s.peers ∧ (judgeSoc soc s).share = s.share ∧ (judgeSoc soc s).engine = s.engine ∧
    (judgeSoc soc s).wheel = s.wheel ∧ (judgeSoc soc s).capture = s.capture ∧ (judgeSoc soc s).port = s.port ∧
    (judgeSoc soc s).orders = s.orders ∧ (judgeSoc soc s).pending = s.pending := by
  unfold judgeSoc; simp

/-! ## Readiness and the Step Engine -/

@[simp] theorem formTorque_frame (s : State) :
    (formTorque s).pins = s.pins ∧ (formTorque s).items = s.items ∧ (formTorque s).link = s.link ∧
    (formTorque s).round = s.round ∧ (formTorque s).peers = s.peers ∧ (formTorque s).share = s.share ∧
    (formTorque s).ready = s.ready ∧ (formTorque s).engine = s.engine ∧ (formTorque s).wheel = s.wheel ∧
    (formTorque s).capture = s.capture ∧ (formTorque s).wear = s.wear ∧ (formTorque s).attention = s.attention ∧
    (formTorque s).port = s.port ∧ (formTorque s).orders = s.orders ∧ (formTorque s).pending = s.pending := by
  unfold formTorque; simp
@[simp] theorem formGrant_frame (s : State) :
    (formGrant s).pins = s.pins ∧ (formGrant s).items = s.items ∧ (formGrant s).link = s.link ∧ (formGrant s).round = s.round ∧
    (formGrant s).peers = s.peers ∧ (formGrant s).share = s.share ∧ (formGrant s).ready = s.ready ∧
    (formGrant s).engine = s.engine ∧ (formGrant s).wheel = s.wheel ∧ (formGrant s).capture = s.capture ∧
    (formGrant s).attention = s.attention ∧ (formGrant s).port = s.port ∧ (formGrant s).orders = s.orders ∧
    (formGrant s).pending = s.pending := by
  unfold formGrant; simp
@[simp] theorem formGrantHere_frame (s : State) :
    (formGrantHere s).pins = s.pins ∧ (formGrantHere s).items = s.items ∧ (formGrantHere s).link = s.link ∧
    (formGrantHere s).round = s.round ∧ (formGrantHere s).peers = s.peers ∧ (formGrantHere s).share = s.share ∧
    (formGrantHere s).ready = s.ready ∧ (formGrantHere s).engine = s.engine ∧ (formGrantHere s).wheel = s.wheel ∧
    (formGrantHere s).capture = s.capture ∧ (formGrantHere s).attention = s.attention ∧ (formGrantHere s).port = s.port ∧
    (formGrantHere s).orders = s.orders ∧ (formGrantHere s).pending = s.pending := by
  unfold formGrantHere; simp
@[simp] theorem setReadiness_frame (r : Readiness) (s : State) :
    (setReadiness r s).pins = s.pins ∧ (setReadiness r s).items = s.items ∧ (setReadiness r s).link = s.link ∧
    (setReadiness r s).round = s.round ∧ (setReadiness r s).peers = s.peers ∧ (setReadiness r s).share = s.share ∧
    (setReadiness r s).engine = s.engine ∧ (setReadiness r s).wheel = s.wheel ∧ (setReadiness r s).capture = s.capture ∧
    (setReadiness r s).attention = s.attention ∧ (setReadiness r s).port = s.port ∧ (setReadiness r s).orders = s.orders ∧
    (setReadiness r s).pending = s.pending := by
  unfold setReadiness; simp
@[simp] theorem dropPulses_frame (s : State) :
    (dropPulses s).pins = s.pins ∧ (dropPulses s).items = s.items ∧ (dropPulses s).link = s.link ∧
    (dropPulses s).round = s.round ∧ (dropPulses s).peers = s.peers ∧ (dropPulses s).share = s.share ∧
    (dropPulses s).ready = s.ready ∧ (dropPulses s).wheel = s.wheel ∧ (dropPulses s).capture = s.capture ∧
    (dropPulses s).roles = s.roles ∧ (dropPulses s).wear = s.wear ∧ (dropPulses s).attention = s.attention ∧
    (dropPulses s).port = s.port ∧ (dropPulses s).orders = s.orders ∧ (dropPulses s).pending = s.pending := by
  unfold dropPulses; simp
@[simp] theorem stepPulse_frame (l : Fin 4) (s : State) :
    (stepPulse l s).pins = s.pins ∧ (stepPulse l s).items = s.items ∧ (stepPulse l s).link = s.link ∧
    (stepPulse l s).round = s.round ∧ (stepPulse l s).peers = s.peers ∧ (stepPulse l s).share = s.share ∧
    (stepPulse l s).ready = s.ready ∧ (stepPulse l s).wheel = s.wheel ∧ (stepPulse l s).capture = s.capture ∧
    (stepPulse l s).roles = s.roles ∧ (stepPulse l s).wear = s.wear ∧ (stepPulse l s).attention = s.attention ∧
    (stepPulse l s).port = s.port ∧ (stepPulse l s).orders = s.orders ∧ (stepPulse l s).pending = s.pending := by
  unfold stepPulse; simp
@[simp] theorem stepPulses_frame (s : State) :
    (stepPulses s).pins = s.pins ∧ (stepPulses s).items = s.items ∧ (stepPulses s).link = s.link ∧
    (stepPulses s).round = s.round ∧ (stepPulses s).peers = s.peers ∧ (stepPulses s).share = s.share ∧
    (stepPulses s).ready = s.ready ∧ (stepPulses s).wheel = s.wheel ∧ (stepPulses s).capture = s.capture ∧
    (stepPulses s).roles = s.roles ∧ (stepPulses s).wear = s.wear ∧ (stepPulses s).attention = s.attention ∧
    (stepPulses s).port = s.port ∧ (stepPulses s).orders = s.orders ∧ (stepPulses s).pending = s.pending := by
  unfold stepPulses; simp
@[simp] theorem abandonList_frame (s : State) :
    (abandonList s).pins = s.pins ∧ (abandonList s).items = s.items ∧ (abandonList s).link = s.link ∧
    (abandonList s).round = s.round ∧ (abandonList s).peers = s.peers ∧ (abandonList s).share = s.share ∧
    (abandonList s).ready = s.ready ∧ (abandonList s).wheel = s.wheel ∧ (abandonList s).capture = s.capture ∧
    (abandonList s).outputs = s.outputs ∧ (abandonList s).roles = s.roles ∧ (abandonList s).wear = s.wear ∧
    (abandonList s).port = s.port ∧ (abandonList s).orders = s.orders ∧ (abandonList s).pending = s.pending := by
  unfold abandonList; (repeat' split) <;> simp
@[simp] theorem beginHolding_frame (s : State) :
    (beginHolding s).pins = s.pins ∧ (beginHolding s).items = s.items ∧ (beginHolding s).link = s.link ∧
    (beginHolding s).round = s.round ∧ (beginHolding s).peers = s.peers ∧ (beginHolding s).share = s.share ∧
    (beginHolding s).ready = s.ready ∧ (beginHolding s).engine = s.engine ∧ (beginHolding s).wheel = s.wheel ∧
    (beginHolding s).capture = s.capture ∧ (beginHolding s).roles = s.roles ∧ (beginHolding s).wear = s.wear ∧
    (beginHolding s).attention = s.attention ∧ (beginHolding s).port = s.port ∧ (beginHolding s).orders = s.orders ∧
    (beginHolding s).pending = s.pending := by
  unfold beginHolding; simp
@[simp] theorem enterFaulted_frame (add : Causes → Causes) (s : State) :
    (enterFaulted add s).pins = s.pins ∧ (enterFaulted add s).items = s.items ∧ (enterFaulted add s).link = s.link ∧
    (enterFaulted add s).round = s.round ∧ (enterFaulted add s).peers = s.peers ∧ (enterFaulted add s).share = s.share ∧
    (enterFaulted add s).wheel = s.wheel ∧ (enterFaulted add s).capture = s.capture ∧ (enterFaulted add s).port = s.port ∧
    (enterFaulted add s).orders = s.orders ∧ (enterFaulted add s).pending = s.pending := by
  unfold enterFaulted; simp
@[simp] theorem entryReady_frame (s : State) :
    (entryReady s).pins = s.pins ∧ (entryReady s).items = s.items ∧ (entryReady s).link = s.link ∧
    (entryReady s).round = s.round ∧ (entryReady s).peers = s.peers ∧ (entryReady s).share = s.share ∧
    (entryReady s).engine = s.engine ∧ (entryReady s).wheel = s.wheel ∧ (entryReady s).capture = s.capture ∧
    (entryReady s).attention = s.attention ∧ (entryReady s).port = s.port ∧ (entryReady s).orders = s.orders ∧
    (entryReady s).pending = s.pending := by
  unfold entryReady; simp
@[simp] theorem entryFailed_frame (s : State) :
    (entryFailed s).pins = s.pins ∧ (entryFailed s).items = s.items ∧ (entryFailed s).round = s.round ∧
    (entryFailed s).peers = s.peers ∧ (entryFailed s).share = s.share ∧ (entryFailed s).wheel = s.wheel ∧
    (entryFailed s).capture = s.capture ∧ (entryFailed s).port = s.port ∧ (entryFailed s).orders = s.orders ∧
    (entryFailed s).pending = s.pending := by
  unfold entryFailed; simp
@[simp] theorem stopArrived_frame (s : State) :
    (stopArrived s).pins = s.pins ∧ (stopArrived s).items = s.items ∧ (stopArrived s).link = s.link ∧
    (stopArrived s).round = s.round ∧ (stopArrived s).peers = s.peers ∧ (stopArrived s).share = s.share ∧
    (stopArrived s).engine = s.engine ∧ (stopArrived s).wheel = s.wheel ∧ (stopArrived s).capture = s.capture ∧
    (stopArrived s).attention = s.attention ∧ (stopArrived s).port = s.port ∧ (stopArrived s).orders = s.orders ∧
    (stopArrived s).pending = s.pending := by
  unfold stopArrived; (repeat' split) <;> simp
@[simp] theorem takeVerdict_frame (name : ListName) (ok : Bool) (s : State) :
    (takeVerdict name ok s).pins = s.pins ∧ (takeVerdict name ok s).items = s.items ∧ (takeVerdict name ok s).round = s.round ∧
    (takeVerdict name ok s).peers = s.peers ∧ (takeVerdict name ok s).share = s.share ∧
    (takeVerdict name ok s).wheel = s.wheel ∧ (takeVerdict name ok s).capture = s.capture ∧
    (takeVerdict name ok s).port = s.port ∧ (takeVerdict name ok s).orders = s.orders ∧
    (takeVerdict name ok s).pending = s.pending := by
  unfold takeVerdict; (repeat' split) <;> simp
@[simp] theorem endList_frame (fail : Option FailCause) (s : State) :
    (endList fail s).pins = s.pins ∧ (endList fail s).items = s.items ∧ (endList fail s).round = s.round ∧
    (endList fail s).peers = s.peers ∧ (endList fail s).share = s.share ∧ (endList fail s).wheel = s.wheel ∧
    (endList fail s).capture = s.capture ∧ (endList fail s).port = s.port ∧ (endList fail s).orders = s.orders ∧
    (endList fail s).pending = s.pending := by
  unfold endList; (repeat' split) <;> simp
@[simp] theorem iteb_pins (c : Prop) [Decidable c] (a b : State × Bool) :
    (if c then a else b).1.pins = if c then a.1.pins else b.1.pins := apply_ite (fun x : State × Bool => x.1.pins) c a b
@[simp] theorem iteb_items (c : Prop) [Decidable c] (a b : State × Bool) :
    (if c then a else b).1.items = if c then a.1.items else b.1.items := apply_ite (fun x : State × Bool => x.1.items) c a b
@[simp] theorem iteb_link (c : Prop) [Decidable c] (a b : State × Bool) :
    (if c then a else b).1.link = if c then a.1.link else b.1.link := apply_ite (fun x : State × Bool => x.1.link) c a b
@[simp] theorem iteb_round (c : Prop) [Decidable c] (a b : State × Bool) :
    (if c then a else b).1.round = if c then a.1.round else b.1.round := apply_ite (fun x : State × Bool => x.1.round) c a b
@[simp] theorem iteb_peers (c : Prop) [Decidable c] (a b : State × Bool) :
    (if c then a else b).1.peers = if c then a.1.peers else b.1.peers := apply_ite (fun x : State × Bool => x.1.peers) c a b
@[simp] theorem iteb_share (c : Prop) [Decidable c] (a b : State × Bool) :
    (if c then a else b).1.share = if c then a.1.share else b.1.share := apply_ite (fun x : State × Bool => x.1.share) c a b
@[simp] theorem iteb_ready (c : Prop) [Decidable c] (a b : State × Bool) :
    (if c then a else b).1.ready = if c then a.1.ready else b.1.ready := apply_ite (fun x : State × Bool => x.1.ready) c a b
@[simp] theorem iteb_engine (c : Prop) [Decidable c] (a b : State × Bool) :
    (if c then a else b).1.engine = if c then a.1.engine else b.1.engine := apply_ite (fun x : State × Bool => x.1.engine) c a b
@[simp] theorem iteb_wheel (c : Prop) [Decidable c] (a b : State × Bool) :
    (if c then a else b).1.wheel = if c then a.1.wheel else b.1.wheel := apply_ite (fun x : State × Bool => x.1.wheel) c a b
@[simp] theorem iteb_capture (c : Prop) [Decidable c] (a b : State × Bool) :
    (if c then a else b).1.capture = if c then a.1.capture else b.1.capture := apply_ite (fun x : State × Bool => x.1.capture) c a b
@[simp] theorem iteb_outputs (c : Prop) [Decidable c] (a b : State × Bool) :
    (if c then a else b).1.outputs = if c then a.1.outputs else b.1.outputs := apply_ite (fun x : State × Bool => x.1.outputs) c a b
@[simp] theorem iteb_roles (c : Prop) [Decidable c] (a b : State × Bool) :
    (if c then a else b).1.roles = if c then a.1.roles else b.1.roles := apply_ite (fun x : State × Bool => x.1.roles) c a b
@[simp] theorem iteb_wear (c : Prop) [Decidable c] (a b : State × Bool) :
    (if c then a else b).1.wear = if c then a.1.wear else b.1.wear := apply_ite (fun x : State × Bool => x.1.wear) c a b
@[simp] theorem iteb_attention (c : Prop) [Decidable c] (a b : State × Bool) :
    (if c then a else b).1.attention = if c then a.1.attention else b.1.attention := apply_ite (fun x : State × Bool => x.1.attention) c a b
@[simp] theorem iteb_port (c : Prop) [Decidable c] (a b : State × Bool) :
    (if c then a else b).1.port = if c then a.1.port else b.1.port := apply_ite (fun x : State × Bool => x.1.port) c a b
@[simp] theorem iteb_orders (c : Prop) [Decidable c] (a b : State × Bool) :
    (if c then a else b).1.orders = if c then a.1.orders else b.1.orders := apply_ite (fun x : State × Bool => x.1.orders) c a b
@[simp] theorem iteb_pending (c : Prop) [Decidable c] (a b : State × Bool) :
    (if c then a else b).1.pending = if c then a.1.pending else b.1.pending := apply_ite (fun x : State × Bool => x.1.pending) c a b

@[simp] theorem goOn_frame (k : Nat) (s : State) :
    (goOn k s).1.pins = s.pins ∧ (goOn k s).1.items = s.items ∧ (goOn k s).1.round = s.round ∧ (goOn k s).1.peers = s.peers ∧
    (goOn k s).1.share = s.share ∧ (goOn k s).1.wheel = s.wheel ∧ (goOn k s).1.capture = s.capture ∧
    (goOn k s).1.port = s.port ∧ (goOn k s).1.orders = s.orders ∧ (goOn k s).1.pending = s.pending := by
  unfold goOn; (repeat' split) <;> simp
@[simp] theorem jumpTo_frame (target : Nat) (s : State) :
    (jumpTo target s).1.pins = s.pins ∧ (jumpTo target s).1.items = s.items ∧ (jumpTo target s).1.round = s.round ∧
    (jumpTo target s).1.peers = s.peers ∧ (jumpTo target s).1.share = s.share ∧ (jumpTo target s).1.wheel = s.wheel ∧
    (jumpTo target s).1.capture = s.capture ∧ (jumpTo target s).1.port = s.port ∧ (jumpTo target s).1.orders = s.orders ∧
    (jumpTo target s).1.pending = s.pending := by
  unfold jumpTo; (repeat' split) <;> simp
@[simp] theorem carrySet_frame (target : SetTarget) (s : State) :
    (carrySet target s).1.pins = s.pins ∧ (carrySet target s).1.items = s.items ∧ (carrySet target s).1.round = s.round ∧
    (carrySet target s).1.peers = s.peers ∧ (carrySet target s).1.share = s.share ∧ (carrySet target s).1.wheel = s.wheel ∧
    (carrySet target s).1.capture = s.capture ∧ (carrySet target s).1.port = s.port ∧ (carrySet target s).1.orders = s.orders ∧
    (carrySet target s).1.pending = s.pending := by
  unfold carrySet; (repeat' split) <;> simp
@[simp] theorem carryOut_frame (st : Step) (s : State) :
    (carryOut st s).1.pins = s.pins ∧ (carryOut st s).1.items = s.items ∧ (carryOut st s).1.round = s.round ∧
    (carryOut st s).1.peers = s.peers ∧ (carryOut st s).1.share = s.share ∧ (carryOut st s).1.wheel = s.wheel ∧
    (carryOut st s).1.capture = s.capture ∧ (carryOut st s).1.port = s.port ∧ (carryOut st s).1.orders = s.orders ∧
    (carryOut st s).1.pending = s.pending := by
  unfold carryOut; (repeat' split) <;> simp
@[simp] theorem runTurn_frame (n : Nat) (s : State) :
    (runTurn n s).pins = s.pins ∧ (runTurn n s).items = s.items ∧ (runTurn n s).round = s.round ∧
    (runTurn n s).peers = s.peers ∧ (runTurn n s).share = s.share ∧ (runTurn n s).wheel = s.wheel ∧
    (runTurn n s).capture = s.capture ∧ (runTurn n s).port = s.port ∧ (runTurn n s).orders = s.orders ∧
    (runTurn n s).pending = s.pending := by
  induction n generalizing s with
  | zero => simp [runTurn]
  | succ n ih =>
    unfold runTurn
    split
    · simp
    · simp [ih]
@[simp] theorem startList_frame (name : ListName) (s : State) :
    (startList name s).pins = s.pins ∧ (startList name s).items = s.items ∧ (startList name s).round = s.round ∧
    (startList name s).peers = s.peers ∧ (startList name s).share = s.share ∧ (startList name s).wheel = s.wheel ∧
    (startList name s).capture = s.capture ∧ (startList name s).port = s.port ∧ (startList name s).orders = s.orders ∧
    (startList name s).pending = s.pending := by
  unfold startList; (repeat' split) <;> simp
@[simp] theorem releaseStep_frame (n : Nat) (s : State) :
    (releaseStep n s).pins = s.pins ∧ (releaseStep n s).items = s.items ∧ (releaseStep n s).round = s.round ∧
    (releaseStep n s).peers = s.peers ∧ (releaseStep n s).share = s.share ∧ (releaseStep n s).wheel = s.wheel ∧
    (releaseStep n s).capture = s.capture ∧ (releaseStep n s).port = s.port ∧ (releaseStep n s).orders = s.orders ∧
    (releaseStep n s).pending = s.pending := by
  unfold releaseStep; simp
@[simp] theorem stepHold_frame (left : Nat) (s : State) :
    (stepHold left s).pins = s.pins ∧ (stepHold left s).items = s.items ∧ (stepHold left s).round = s.round ∧
    (stepHold left s).peers = s.peers ∧ (stepHold left s).share = s.share ∧ (stepHold left s).wheel = s.wheel ∧
    (stepHold left s).capture = s.capture ∧ (stepHold left s).port = s.port ∧ (stepHold left s).orders = s.orders ∧
    (stepHold left s).pending = s.pending := by
  unfold stepHold; (repeat' split) <;> simp
@[simp] theorem stepPause_frame (left : Nat) (s : State) :
    (stepPause left s).pins = s.pins ∧ (stepPause left s).items = s.items ∧ (stepPause left s).round = s.round ∧
    (stepPause left s).peers = s.peers ∧ (stepPause left s).share = s.share ∧ (stepPause left s).wheel = s.wheel ∧
    (stepPause left s).capture = s.capture ∧ (stepPause left s).port = s.port ∧ (stepPause left s).orders = s.orders ∧
    (stepPause left s).pending = s.pending := by
  unfold stepPause; simp
@[simp] theorem stepWait_frame (s : State) :
    (stepWait s).pins = s.pins ∧ (stepWait s).items = s.items ∧ (stepWait s).round = s.round ∧ (stepWait s).peers = s.peers ∧
    (stepWait s).share = s.share ∧ (stepWait s).wheel = s.wheel ∧ (stepWait s).capture = s.capture ∧
    (stepWait s).port = s.port ∧ (stepWait s).orders = s.orders ∧ (stepWait s).pending = s.pending := by
  unfold stepWait; (repeat' split) <;> simp
@[simp] theorem boundaryTurn_frame (s : State) :
    (boundaryTurn s).pins = s.pins ∧ (boundaryTurn s).items = s.items ∧ (boundaryTurn s).round = s.round ∧
    (boundaryTurn s).peers = s.peers ∧ (boundaryTurn s).share = s.share ∧ (boundaryTurn s).wheel = s.wheel ∧
    (boundaryTurn s).capture = s.capture ∧ (boundaryTurn s).port = s.port ∧ (boundaryTurn s).orders = s.orders ∧
    (boundaryTurn s).pending = s.pending := by
  unfold boundaryTurn; (repeat' split) <;> simp
@[simp] theorem beginStarting_frame (s : State) :
    (beginStarting s).pins = s.pins ∧ (beginStarting s).items = s.items ∧ (beginStarting s).round = s.round ∧
    (beginStarting s).peers = s.peers ∧ (beginStarting s).share = s.share ∧ (beginStarting s).wheel = s.wheel ∧
    (beginStarting s).capture = s.capture ∧ (beginStarting s).port = s.port ∧ (beginStarting s).orders = s.orders ∧
    (beginStarting s).pending = s.pending := by
  unfold beginStarting; simp
@[simp] theorem beginStopping_frame (dest : StopDest) (s : State) :
    (beginStopping dest s).pins = s.pins ∧ (beginStopping dest s).items = s.items ∧ (beginStopping dest s).round = s.round ∧
    (beginStopping dest s).peers = s.peers ∧ (beginStopping dest s).share = s.share ∧ (beginStopping dest s).wheel = s.wheel ∧
    (beginStopping dest s).capture = s.capture ∧ (beginStopping dest s).port = s.port ∧
    (beginStopping dest s).orders = s.orders ∧ (beginStopping dest s).pending = s.pending := by
  unfold beginStopping; simp
@[simp] theorem doEngage_frame (s : State) :
    (doEngage s).pins = s.pins ∧ (doEngage s).items = s.items ∧ (doEngage s).round = s.round ∧ (doEngage s).peers = s.peers ∧
    (doEngage s).share = s.share ∧ (doEngage s).wheel = s.wheel ∧ (doEngage s).capture = s.capture ∧
    (doEngage s).port = s.port ∧ (doEngage s).orders = s.orders ∧ (doEngage s).pending = s.pending := by
  unfold doEngage; simp
@[simp] theorem autoEngage_frame (s : State) :
    (autoEngage s).pins = s.pins ∧ (autoEngage s).items = s.items ∧ (autoEngage s).round = s.round ∧
    (autoEngage s).peers = s.peers ∧ (autoEngage s).share = s.share ∧ (autoEngage s).wheel = s.wheel ∧
    (autoEngage s).capture = s.capture ∧ (autoEngage s).port = s.port ∧ (autoEngage s).orders = s.orders ∧
    (autoEngage s).pending = s.pending := by
  unfold autoEngage; simp
@[simp] theorem doDisengage_frame (s : State) :
    (doDisengage s).pins = s.pins ∧ (doDisengage s).items = s.items ∧ (doDisengage s).round = s.round ∧
    (doDisengage s).peers = s.peers ∧ (doDisengage s).share = s.share ∧ (doDisengage s).wheel = s.wheel ∧
    (doDisengage s).capture = s.capture ∧ (doDisengage s).port = s.port ∧ (doDisengage s).orders = s.orders ∧
    (doDisengage s).pending = s.pending := by
  unfold doDisengage; (repeat' split) <;> simp
@[simp] theorem testRequest_frame (s : State) :
    (testRequest s).pins = s.pins ∧ (testRequest s).items = s.items ∧ (testRequest s).round = s.round ∧
    (testRequest s).peers = s.peers ∧ (testRequest s).share = s.share ∧ (testRequest s).wheel = s.wheel ∧
    (testRequest s).capture = s.capture ∧ (testRequest s).port = s.port ∧ (testRequest s).orders = s.orders ∧
    (testRequest s).pending = s.pending := by
  unfold testRequest; simp
@[simp] theorem passWithoutList_frame (s : State) :
    (passWithoutList s).pins = s.pins ∧ (passWithoutList s).items = s.items ∧ (passWithoutList s).link = s.link ∧
    (passWithoutList s).round = s.round ∧ (passWithoutList s).peers = s.peers ∧ (passWithoutList s).share = s.share ∧
    (passWithoutList s).engine = s.engine ∧ (passWithoutList s).wheel = s.wheel ∧ (passWithoutList s).capture = s.capture ∧
    (passWithoutList s).attention = s.attention ∧ (passWithoutList s).port = s.port ∧ (passWithoutList s).orders = s.orders ∧
    (passWithoutList s).pending = s.pending := by
  unfold passWithoutList; (repeat' split) <;> simp
@[simp] theorem readinessBoundary_frame (s : State) :
    (readinessBoundary s).pins = s.pins ∧ (readinessBoundary s).items = s.items ∧ (readinessBoundary s).round = s.round ∧
    (readinessBoundary s).peers = s.peers ∧ (readinessBoundary s).share = s.share ∧ (readinessBoundary s).wheel = s.wheel ∧
    (readinessBoundary s).capture = s.capture ∧ (readinessBoundary s).port = s.port ∧ (readinessBoundary s).orders = s.orders ∧
    (readinessBoundary s).pending = s.pending := by
  unfold readinessBoundary; simp

/-! ## Outputs -/

@[simp] theorem reportLatch_frame (s : State) :
    (reportLatch s).pins = s.pins ∧ (reportLatch s).items = s.items ∧ (reportLatch s).link = s.link ∧
    (reportLatch s).round = s.round ∧ (reportLatch s).peers = s.peers ∧ (reportLatch s).share = s.share ∧
    (reportLatch s).wheel = s.wheel ∧ (reportLatch s).capture = s.capture ∧ (reportLatch s).port = s.port ∧
    (reportLatch s).orders = s.orders ∧ (reportLatch s).pending = s.pending := by
  unfold reportLatch; simp
@[simp] theorem tellReadiness_frame (n : OutName) (entry latched : Bool) (s : State) :
    (tellReadiness n entry latched s).pins = s.pins ∧ (tellReadiness n entry latched s).items = s.items ∧
    (tellReadiness n entry latched s).link = s.link ∧ (tellReadiness n entry latched s).round = s.round ∧
    (tellReadiness n entry latched s).peers = s.peers ∧ (tellReadiness n entry latched s).share = s.share ∧
    (tellReadiness n entry latched s).wheel = s.wheel ∧ (tellReadiness n entry latched s).capture = s.capture ∧
    (tellReadiness n entry latched s).port = s.port ∧ (tellReadiness n entry latched s).orders = s.orders ∧
    (tellReadiness n entry latched s).pending = s.pending := by
  unfold tellReadiness; (repeat' split) <;> simp
@[simp] theorem shutdownEntry_frame (n : OutName) (s : State) :
    (shutdownEntry n s).pins = s.pins ∧ (shutdownEntry n s).items = s.items ∧ (shutdownEntry n s).link = s.link ∧
    (shutdownEntry n s).round = s.round ∧ (shutdownEntry n s).peers = s.peers ∧ (shutdownEntry n s).share = s.share ∧
    (shutdownEntry n s).wheel = s.wheel ∧ (shutdownEntry n s).capture = s.capture ∧ (shutdownEntry n s).port = s.port ∧
    (shutdownEntry n s).orders = s.orders ∧ (shutdownEntry n s).pending = s.pending := by
  unfold shutdownEntry; simp
@[simp] theorem trigger_frame (n : OutName) (s : State) :
    (trigger n s).pins = s.pins ∧ (trigger n s).items = s.items ∧ (trigger n s).link = s.link ∧ (trigger n s).round = s.round ∧
    (trigger n s).peers = s.peers ∧ (trigger n s).share = s.share ∧ (trigger n s).wheel = s.wheel ∧
    (trigger n s).capture = s.capture ∧ (trigger n s).port = s.port ∧ (trigger n s).orders = s.orders ∧
    (trigger n s).pending = s.pending := by
  unfold trigger; (repeat' split) <;> simp
@[simp] theorem triggerBoth_frame (a b : Bool) (s : State) :
    (triggerBoth a b s).pins = s.pins ∧ (triggerBoth a b s).items = s.items ∧ (triggerBoth a b s).link = s.link ∧
    (triggerBoth a b s).round = s.round ∧ (triggerBoth a b s).peers = s.peers ∧ (triggerBoth a b s).share = s.share ∧
    (triggerBoth a b s).wheel = s.wheel ∧ (triggerBoth a b s).capture = s.capture ∧ (triggerBoth a b s).port = s.port ∧
    (triggerBoth a b s).pending = s.pending := by
  unfold triggerBoth; dsimp only; (repeat' split) <;> simp [takeOrder]
@[simp] theorem offerSource_frame (k : Nat) (s : State) :
    (offerSource k s).pins = s.pins ∧ (offerSource k s).items = s.items ∧ (offerSource k s).link = s.link ∧
    (offerSource k s).round = s.round ∧ (offerSource k s).peers = s.peers ∧ (offerSource k s).share = s.share ∧
    (offerSource k s).wheel = s.wheel ∧ (offerSource k s).capture = s.capture ∧ (offerSource k s).port = s.port ∧
    (offerSource k s).pending = s.pending := by
  unfold offerSource; simp
@[simp] theorem periodSource_frame (n : OutName) (s : State) :
    (periodSource n s).pins = s.pins ∧ (periodSource n s).items = s.items ∧ (periodSource n s).link = s.link ∧
    (periodSource n s).round = s.round ∧ (periodSource n s).peers = s.peers ∧ (periodSource n s).share = s.share ∧
    (periodSource n s).wheel = s.wheel ∧ (periodSource n s).capture = s.capture ∧ (periodSource n s).port = s.port ∧
    (periodSource n s).orders = s.orders ∧ (periodSource n s).pending = s.pending := by
  unfold periodSource; (repeat' split) <;> simp
@[simp] theorem startPeriod_frame (n : OutName) (s : State) :
    (startPeriod n s).pins = s.pins ∧ (startPeriod n s).items = s.items ∧ (startPeriod n s).link = s.link ∧
    (startPeriod n s).round = s.round ∧ (startPeriod n s).peers = s.peers ∧ (startPeriod n s).share = s.share ∧
    (startPeriod n s).ready = s.ready ∧ (startPeriod n s).engine = s.engine ∧ (startPeriod n s).wheel = s.wheel ∧
    (startPeriod n s).capture = s.capture ∧ (startPeriod n s).roles = s.roles ∧ (startPeriod n s).wear = s.wear ∧
    (startPeriod n s).attention = s.attention ∧ (startPeriod n s).port = s.port ∧ (startPeriod n s).orders = s.orders ∧
    (startPeriod n s).pending = s.pending := by
  unfold startPeriod; simp
@[simp] theorem doPeriodEnd_frame (n : OutName) (s : State) :
    (doPeriodEnd n s).pins = s.pins ∧ (doPeriodEnd n s).items = s.items ∧ (doPeriodEnd n s).link = s.link ∧
    (doPeriodEnd n s).round = s.round ∧ (doPeriodEnd n s).peers = s.peers ∧ (doPeriodEnd n s).share = s.share ∧
    (doPeriodEnd n s).wheel = s.wheel ∧ (doPeriodEnd n s).capture = s.capture ∧ (doPeriodEnd n s).port = s.port ∧
    (doPeriodEnd n s).orders = s.orders ∧ (doPeriodEnd n s).pending = s.pending := by
  unfold doPeriodEnd; (repeat' split) <;> simp
@[simp] theorem putWindow_frame (k : CeaseKind) (w : Window) (s : State) :
    (putWindow k w s).pins = s.pins ∧ (putWindow k w s).items = s.items ∧ (putWindow k w s).link = s.link ∧
    (putWindow k w s).round = s.round ∧ (putWindow k w s).peers = s.peers ∧ (putWindow k w s).ready = s.ready ∧
    (putWindow k w s).engine = s.engine ∧ (putWindow k w s).wheel = s.wheel ∧ (putWindow k w s).capture = s.capture ∧
    (putWindow k w s).outputs = s.outputs ∧ (putWindow k w s).roles = s.roles ∧ (putWindow k w s).wear = s.wear ∧
    (putWindow k w s).attention = s.attention ∧ (putWindow k w s).port = s.port ∧ (putWindow k w s).orders = s.orders ∧
    (putWindow k w s).pending = s.pending := by
  unfold putWindow; (repeat' split) <;> simp
@[simp] theorem changeWindows_pins (f : State → State) (s : State) (h : (f s).pins = s.pins) :
    (changeWindows f s).pins = s.pins := by
  unfold changeWindows; simp [h]
@[simp] theorem changeWindows_items (f : State → State) (s : State) (h : (f s).items = s.items) :
    (changeWindows f s).items = s.items := by
  unfold changeWindows; simp [h]
@[simp] theorem changeWindows_link (f : State → State) (s : State) (h : (f s).link = s.link) :
    (changeWindows f s).link = s.link := by
  unfold changeWindows; simp [h]
@[simp] theorem changeWindows_round (f : State → State) (s : State) (h : (f s).round = s.round) :
    (changeWindows f s).round = s.round := by
  unfold changeWindows; simp [h]
@[simp] theorem changeWindows_peers (f : State → State) (s : State) (h : (f s).peers = s.peers) :
    (changeWindows f s).peers = s.peers := by
  unfold changeWindows; simp [h]
@[simp] theorem changeWindows_share (f : State → State) (s : State) (h : (f s).share = s.share) :
    (changeWindows f s).share = s.share := by
  unfold changeWindows; simp [h]
@[simp] theorem changeWindows_ready (f : State → State) (s : State) (h : (f s).ready = s.ready) :
    (changeWindows f s).ready = s.ready := by
  unfold changeWindows; simp [h]
@[simp] theorem changeWindows_engine (f : State → State) (s : State) (h : (f s).engine = s.engine) :
    (changeWindows f s).engine = s.engine := by
  unfold changeWindows; simp [h]
@[simp] theorem changeWindows_wheel (f : State → State) (s : State) (h : (f s).wheel = s.wheel) :
    (changeWindows f s).wheel = s.wheel := by
  unfold changeWindows; simp [h]
@[simp] theorem changeWindows_capture (f : State → State) (s : State) (h : (f s).capture = s.capture) :
    (changeWindows f s).capture = s.capture := by
  unfold changeWindows; simp [h]
@[simp] theorem changeWindows_attention (f : State → State) (s : State) (h : (f s).attention = s.attention) :
    (changeWindows f s).attention = s.attention := by
  unfold changeWindows; simp [h]
@[simp] theorem changeWindows_port (f : State → State) (s : State) (h : (f s).port = s.port) :
    (changeWindows f s).port = s.port := by
  unfold changeWindows; simp [h]
@[simp] theorem changeWindows_orders (f : State → State) (s : State) (h : (f s).orders = s.orders) :
    (changeWindows f s).orders = s.orders := by
  unfold changeWindows; simp [h]
@[simp] theorem changeWindows_pending (f : State → State) (s : State) (h : (f s).pending = s.pending) :
    (changeWindows f s).pending = s.pending := by
  unfold changeWindows; simp [h]
@[simp] theorem setWindow_frame (k : CeaseKind) (duration : Nat) (station : Station) (line : Fin 4) (s : State) :
    (setWindow k duration station line s).pins = s.pins ∧ (setWindow k duration station line s).items = s.items ∧
    (setWindow k duration station line s).link = s.link ∧ (setWindow k duration station line s).round = s.round ∧
    (setWindow k duration station line s).peers = s.peers ∧ (setWindow k duration station line s).ready = s.ready ∧
    (setWindow k duration station line s).engine = s.engine ∧ (setWindow k duration station line s).wheel = s.wheel ∧
    (setWindow k duration station line s).capture = s.capture ∧ (setWindow k duration station line s).attention = s.attention ∧
    (setWindow k duration station line s).port = s.port ∧ (setWindow k duration station line s).orders = s.orders ∧
    (setWindow k duration station line s).pending = s.pending := by
  unfold setWindow; simp
@[simp] theorem ceaseTrip_frame (k : CeaseKind) (duration : Nat) (line : Fin 4) (s : State) :
    (ceaseTrip k duration line s).pins = s.pins ∧ (ceaseTrip k duration line s).items = s.items ∧
    (ceaseTrip k duration line s).round = s.round ∧ (ceaseTrip k duration line s).peers = s.peers ∧
    (ceaseTrip k duration line s).ready = s.ready ∧ (ceaseTrip k duration line s).engine = s.engine ∧
    (ceaseTrip k duration line s).wheel = s.wheel ∧ (ceaseTrip k duration line s).capture = s.capture ∧
    (ceaseTrip k duration line s).attention = s.attention ∧ (ceaseTrip k duration line s).port = s.port ∧
    (ceaseTrip k duration line s).orders = s.orders ∧ (ceaseTrip k duration line s).pending = s.pending := by
  unfold ceaseTrip; simp
@[simp] theorem lineBecomesActive_frame (l : Fin 4) (s : State) :
    (lineBecomesActive l s).pins = s.pins ∧ (lineBecomesActive l s).items = s.items ∧ (lineBecomesActive l s).round = s.round ∧
    (lineBecomesActive l s).peers = s.peers ∧ (lineBecomesActive l s).wheel = s.wheel ∧
    (lineBecomesActive l s).capture = s.capture ∧ (lineBecomesActive l s).port = s.port ∧
    (lineBecomesActive l s).pending = s.pending := by
  unfold lineBecomesActive; (repeat' split) <;> simp
@[simp] theorem changeLink_pins (f : State → State) (s : State) (h : (f s).pins = s.pins) :
    (changeLink f s).pins = s.pins := by
  unfold changeLink; simp [h]
@[simp] theorem changeLink_items (f : State → State) (s : State) (h : (f s).items = s.items) :
    (changeLink f s).items = s.items := by
  unfold changeLink; simp [h]
@[simp] theorem changeLink_link (f : State → State) (s : State) (h : (f s).link = s.link) :
    (changeLink f s).link = s.link := by
  unfold changeLink; simp [h]
@[simp] theorem changeLink_round (f : State → State) (s : State) (h : (f s).round = s.round) :
    (changeLink f s).round = s.round := by
  unfold changeLink; simp [h]
@[simp] theorem changeLink_peers (f : State → State) (s : State) (h : (f s).peers = s.peers) :
    (changeLink f s).peers = s.peers := by
  unfold changeLink; simp [h]
@[simp] theorem changeLink_share (f : State → State) (s : State) (h : (f s).share = s.share) :
    (changeLink f s).share = s.share := by
  unfold changeLink; simp [h]
@[simp] theorem changeLink_ready (f : State → State) (s : State) (h : (f s).ready = s.ready) :
    (changeLink f s).ready = s.ready := by
  unfold changeLink; simp [h]
@[simp] theorem changeLink_engine (f : State → State) (s : State) (h : (f s).engine = s.engine) :
    (changeLink f s).engine = s.engine := by
  unfold changeLink; simp [h]
@[simp] theorem changeLink_wheel (f : State → State) (s : State) (h : (f s).wheel = s.wheel) :
    (changeLink f s).wheel = s.wheel := by
  unfold changeLink; simp [h]
@[simp] theorem changeLink_capture (f : State → State) (s : State) (h : (f s).capture = s.capture) :
    (changeLink f s).capture = s.capture := by
  unfold changeLink; simp [h]
@[simp] theorem changeLink_attention (f : State → State) (s : State) (h : (f s).attention = s.attention) :
    (changeLink f s).attention = s.attention := by
  unfold changeLink; simp [h]
@[simp] theorem changeLink_port (f : State → State) (s : State) (h : (f s).port = s.port) :
    (changeLink f s).port = s.port := by
  unfold changeLink; simp [h]
@[simp] theorem changeLink_orders (f : State → State) (s : State) (h : (f s).orders = s.orders) :
    (changeLink f s).orders = s.orders := by
  unfold changeLink; simp [h]
@[simp] theorem changeLink_pending (f : State → State) (s : State) (h : (f s).pending = s.pending) :
    (changeLink f s).pending = s.pending := by
  unfold changeLink; simp [h]

/-! ## Sharing -/

@[simp] theorem setHeld_frame (d : Int) (s : State) :
    (setHeld d s).pins = s.pins ∧ (setHeld d s).items = s.items ∧ (setHeld d s).link = s.link ∧ (setHeld d s).round = s.round ∧
    (setHeld d s).peers = s.peers ∧ (setHeld d s).ready = s.ready ∧ (setHeld d s).engine = s.engine ∧
    (setHeld d s).wheel = s.wheel ∧ (setHeld d s).capture = s.capture ∧ (setHeld d s).wear = s.wear ∧
    (setHeld d s).attention = s.attention ∧ (setHeld d s).port = s.port ∧ (setHeld d s).orders = s.orders ∧
    (setHeld d s).pending = s.pending := by
  unfold setHeld; simp
@[simp] theorem demandTrigger_frame (d : Int) (s : State) :
    (demandTrigger d s).pins = s.pins ∧ (demandTrigger d s).items = s.items ∧ (demandTrigger d s).link = s.link ∧
    (demandTrigger d s).round = s.round ∧ (demandTrigger d s).peers = s.peers ∧ (demandTrigger d s).ready = s.ready ∧
    (demandTrigger d s).engine = s.engine ∧ (demandTrigger d s).wheel = s.wheel ∧ (demandTrigger d s).capture = s.capture ∧
    (demandTrigger d s).wear = s.wear ∧ (demandTrigger d s).attention = s.attention ∧ (demandTrigger d s).port = s.port ∧
    (demandTrigger d s).orders = s.orders ∧ (demandTrigger d s).pending = s.pending := by
  unfold demandTrigger; (repeat' split) <;> simp
@[simp] theorem timerTrigger_frame (s : State) :
    (timerTrigger s).pins = s.pins ∧ (timerTrigger s).items = s.items ∧ (timerTrigger s).link = s.link ∧
    (timerTrigger s).round = s.round ∧ (timerTrigger s).peers = s.peers ∧ (timerTrigger s).ready = s.ready ∧
    (timerTrigger s).engine = s.engine ∧ (timerTrigger s).wheel = s.wheel ∧ (timerTrigger s).capture = s.capture ∧
    (timerTrigger s).outputs = s.outputs ∧ (timerTrigger s).roles = s.roles ∧ (timerTrigger s).wear = s.wear ∧
    (timerTrigger s).attention = s.attention ∧ (timerTrigger s).port = s.port ∧ (timerTrigger s).orders = s.orders ∧
    (timerTrigger s).pending = s.pending := by
  unfold timerTrigger; (repeat' split) <;> simp
@[simp] theorem startPending_frame (s : State) :
    (startPending s).pins = s.pins ∧ (startPending s).items = s.items ∧ (startPending s).link = s.link ∧
    (startPending s).round = s.round ∧ (startPending s).peers = s.peers ∧ (startPending s).ready = s.ready ∧
    (startPending s).engine = s.engine ∧ (startPending s).wheel = s.wheel ∧ (startPending s).capture = s.capture ∧
    (startPending s).wear = s.wear ∧ (startPending s).attention = s.attention ∧ (startPending s).port = s.port ∧
    (startPending s).orders = s.orders ∧ (startPending s).pending = s.pending := by
  unfold startPending; (repeat' split) <;> simp
@[simp] theorem stepHeld_frame (s : State) :
    (stepHeld s).pins = s.pins ∧ (stepHeld s).items = s.items ∧ (stepHeld s).link = s.link ∧ (stepHeld s).round = s.round ∧
    (stepHeld s).peers = s.peers ∧ (stepHeld s).ready = s.ready ∧ (stepHeld s).engine = s.engine ∧
    (stepHeld s).wheel = s.wheel ∧ (stepHeld s).capture = s.capture ∧ (stepHeld s).wear = s.wear ∧
    (stepHeld s).attention = s.attention ∧ (stepHeld s).port = s.port ∧ (stepHeld s).orders = s.orders ∧
    (stepHeld s).pending = s.pending := by
  unfold stepHeld; simp
@[simp] theorem lowerWindows_frame (s : State) :
    (lowerWindows s).pins = s.pins ∧ (lowerWindows s).items = s.items ∧ (lowerWindows s).link = s.link ∧
    (lowerWindows s).round = s.round ∧ (lowerWindows s).peers = s.peers ∧ (lowerWindows s).ready = s.ready ∧
    (lowerWindows s).engine = s.engine ∧ (lowerWindows s).wheel = s.wheel ∧ (lowerWindows s).capture = s.capture ∧
    (lowerWindows s).attention = s.attention ∧ (lowerWindows s).port = s.port ∧ (lowerWindows s).orders = s.orders ∧
    (lowerWindows s).pending = s.pending := by
  unfold lowerWindows; simp

/-! ## Role Logic -/

@[simp] theorem writeDemand_frame (g : DemandGroup) (s : State) :
    (writeDemand g s).pins = s.pins ∧ (writeDemand g s).items = s.items ∧ (writeDemand g s).link = s.link ∧
    (writeDemand g s).round = s.round ∧ (writeDemand g s).share = s.share ∧ (writeDemand g s).ready = s.ready ∧
    (writeDemand g s).engine = s.engine ∧ (writeDemand g s).wheel = s.wheel ∧ (writeDemand g s).capture = s.capture ∧
    (writeDemand g s).outputs = s.outputs ∧ (writeDemand g s).roles = s.roles ∧ (writeDemand g s).wear = s.wear ∧
    (writeDemand g s).attention = s.attention ∧ (writeDemand g s).port = s.port ∧ (writeDemand g s).orders = s.orders ∧
    (writeDemand g s).pending = s.pending := by
  unfold writeDemand; simp
@[simp] theorem countOnsets_frame (before after : DemandRole) (s : State) :
    (countOnsets before after s).pins = s.pins ∧ (countOnsets before after s).items = s.items ∧
    (countOnsets before after s).round = s.round ∧ (countOnsets before after s).peers = s.peers ∧
    (countOnsets before after s).share = s.share ∧ (countOnsets before after s).engine = s.engine ∧
    (countOnsets before after s).wheel = s.wheel ∧ (countOnsets before after s).capture = s.capture ∧
    (countOnsets before after s).port = s.port ∧ (countOnsets before after s).orders = s.orders ∧
    (countOnsets before after s).pending = s.pending := by
  unfold countOnsets; simp
@[simp] theorem computeDemand_frame (s : State) :
    (computeDemand s).pins = s.pins ∧ (computeDemand s).items = s.items ∧ (computeDemand s).round = s.round ∧
    (computeDemand s).engine = s.engine ∧ (computeDemand s).wheel = s.wheel ∧ (computeDemand s).capture = s.capture ∧
    (computeDemand s).port = s.port ∧ (computeDemand s).orders = s.orders ∧ (computeDemand s).pending = s.pending := by
  unfold computeDemand; simp
@[simp] theorem evaluateRequest_frame (b : PlanBody) (soc : Int) (s : State) :
    (evaluateRequest b soc s).pins = s.pins ∧ (evaluateRequest b soc s).items = s.items ∧
    (evaluateRequest b soc s).link = s.link ∧ (evaluateRequest b soc s).round = s.round ∧
    (evaluateRequest b soc s).peers = s.peers ∧ (evaluateRequest b soc s).share = s.share ∧
    (evaluateRequest b soc s).ready = s.ready ∧ (evaluateRequest b soc s).engine = s.engine ∧
    (evaluateRequest b soc s).wheel = s.wheel ∧ (evaluateRequest b soc s).capture = s.capture ∧
    (evaluateRequest b soc s).outputs = s.outputs ∧ (evaluateRequest b soc s).wear = s.wear ∧
    (evaluateRequest b soc s).attention = s.attention ∧ (evaluateRequest b soc s).port = s.port ∧
    (evaluateRequest b soc s).orders = s.orders ∧ (evaluateRequest b soc s).pending = s.pending := by
  unfold evaluateRequest; simp
@[simp] theorem setPack_frame (charge : Nat) (remainder : Int) (s : State) :
    (setPack charge remainder s).pins = s.pins ∧ (setPack charge remainder s).items = s.items ∧
    (setPack charge remainder s).round = s.round ∧ (setPack charge remainder s).peers = s.peers ∧
    (setPack charge remainder s).share = s.share ∧ (setPack charge remainder s).engine = s.engine ∧
    (setPack charge remainder s).wheel = s.wheel ∧ (setPack charge remainder s).capture = s.capture ∧
    (setPack charge remainder s).port = s.port ∧ (setPack charge remainder s).orders = s.orders ∧
    (setPack charge remainder s).pending = s.pending := by
  rw [setPack]; split <;> simp
@[simp] theorem loadCharge_frame (charge : Nat) (s : State) :
    (loadCharge charge s).pins = s.pins ∧ (loadCharge charge s).items = s.items ∧ (loadCharge charge s).round = s.round ∧
    (loadCharge charge s).peers = s.peers ∧ (loadCharge charge s).share = s.share ∧ (loadCharge charge s).engine = s.engine ∧
    (loadCharge charge s).wheel = s.wheel ∧ (loadCharge charge s).capture = s.capture ∧ (loadCharge charge s).port = s.port ∧
    (loadCharge charge s).orders = s.orders ∧ (loadCharge charge s).pending = s.pending := by
  unfold loadCharge; simp
@[simp] theorem countCharge_frame (s : State) :
    (countCharge s).pins = s.pins ∧ (countCharge s).items = s.items ∧ (countCharge s).round = s.round ∧
    (countCharge s).peers = s.peers ∧ (countCharge s).share = s.share ∧ (countCharge s).engine = s.engine ∧
    (countCharge s).wheel = s.wheel ∧ (countCharge s).capture = s.capture ∧ (countCharge s).port = s.port ∧
    (countCharge s).orders = s.orders ∧ (countCharge s).pending = s.pending := by
  unfold countCharge; simp
@[simp] theorem withContributions_frame (v : Vector Nat 16) (s : State) :
    (withContributions v s).pins = s.pins ∧ (withContributions v s).items = s.items ∧ (withContributions v s).link = s.link ∧
    (withContributions v s).round = s.round ∧ (withContributions v s).peers = s.peers ∧
    (withContributions v s).share = s.share ∧ (withContributions v s).ready = s.ready ∧
    (withContributions v s).engine = s.engine ∧ (withContributions v s).wheel = s.wheel ∧
    (withContributions v s).capture = s.capture ∧ (withContributions v s).outputs = s.outputs ∧
    (withContributions v s).wear = s.wear ∧ (withContributions v s).attention = s.attention ∧
    (withContributions v s).port = s.port ∧ (withContributions v s).orders = s.orders ∧
    (withContributions v s).pending = s.pending := by
  unfold withContributions; simp
@[simp] theorem takeContribution_frame (i : Station) (actual : Int) (s : State) :
    (takeContribution i actual s).pins = s.pins ∧ (takeContribution i actual s).items = s.items ∧
    (takeContribution i actual s).link = s.link ∧ (takeContribution i actual s).round = s.round ∧
    (takeContribution i actual s).peers = s.peers ∧ (takeContribution i actual s).share = s.share ∧
    (takeContribution i actual s).ready = s.ready ∧ (takeContribution i actual s).engine = s.engine ∧
    (takeContribution i actual s).wheel = s.wheel ∧ (takeContribution i actual s).capture = s.capture ∧
    (takeContribution i actual s).wear = s.wear ∧ (takeContribution i actual s).attention = s.attention ∧
    (takeContribution i actual s).port = s.port ∧ (takeContribution i actual s).orders = s.orders ∧
    (takeContribution i actual s).pending = s.pending := by
  unfold takeContribution; simp
@[simp] theorem judgeStopHold_frame (s : State) :
    (judgeStopHold s).pins = s.pins ∧ (judgeStopHold s).items = s.items ∧ (judgeStopHold s).round = s.round ∧
    (judgeStopHold s).peers = s.peers ∧ (judgeStopHold s).share = s.share ∧ (judgeStopHold s).engine = s.engine ∧
    (judgeStopHold s).wheel = s.wheel ∧ (judgeStopHold s).capture = s.capture ∧ (judgeStopHold s).port = s.port ∧
    (judgeStopHold s).orders = s.orders ∧ (judgeStopHold s).pending = s.pending := by
  unfold judgeStopHold; simp
@[simp] theorem stepLining_frame (applied : Nat) (s : State) :
    (stepLining applied s).pins = s.pins ∧ (stepLining applied s).items = s.items ∧ (stepLining applied s).round = s.round ∧
    (stepLining applied s).peers = s.peers ∧ (stepLining applied s).share = s.share ∧ (stepLining applied s).engine = s.engine ∧
    (stepLining applied s).wheel = s.wheel ∧ (stepLining applied s).capture = s.capture ∧ (stepLining applied s).port = s.port ∧
    (stepLining applied s).orders = s.orders ∧ (stepLining applied s).pending = s.pending := by
  unfold stepLining; simp
@[simp] theorem formThickness_frame (s : State) :
    (formThickness s).pins = s.pins ∧ (formThickness s).items = s.items ∧ (formThickness s).link = s.link ∧
    (formThickness s).round = s.round ∧ (formThickness s).peers = s.peers ∧ (formThickness s).share = s.share ∧
    (formThickness s).ready = s.ready ∧ (formThickness s).engine = s.engine ∧ (formThickness s).wheel = s.wheel ∧
    (formThickness s).capture = s.capture ∧ (formThickness s).outputs = s.outputs ∧ (formThickness s).wear = s.wear ∧
    (formThickness s).attention = s.attention ∧ (formThickness s).port = s.port ∧ (formThickness s).orders = s.orders ∧
    (formThickness s).pending = s.pending := by
  unfold formThickness; simp

/-! ## The round boundary -/

@[simp] theorem stepRemainder_frame (s : State) :
    (stepRemainder s).pins = s.pins ∧ (stepRemainder s).items = s.items ∧ (stepRemainder s).round = s.round ∧
    (stepRemainder s).peers = s.peers ∧ (stepRemainder s).share = s.share ∧ (stepRemainder s).ready = s.ready ∧
    (stepRemainder s).engine = s.engine ∧ (stepRemainder s).wheel = s.wheel ∧ (stepRemainder s).capture = s.capture ∧
    (stepRemainder s).outputs = s.outputs ∧ (stepRemainder s).roles = s.roles ∧ (stepRemainder s).wear = s.wear ∧
    (stepRemainder s).attention = s.attention ∧ (stepRemainder s).port = s.port ∧ (stepRemainder s).orders = s.orders ∧
    (stepRemainder s).pending = s.pending := by
  unfold stepRemainder; simp
@[simp] theorem releaseWarn_frame (s : State) :
    (releaseWarn s).pins = s.pins ∧ (releaseWarn s).items = s.items ∧ (releaseWarn s).round = s.round ∧
    (releaseWarn s).peers = s.peers ∧ (releaseWarn s).share = s.share ∧ (releaseWarn s).ready = s.ready ∧
    (releaseWarn s).engine = s.engine ∧ (releaseWarn s).wheel = s.wheel ∧ (releaseWarn s).capture = s.capture ∧
    (releaseWarn s).outputs = s.outputs ∧ (releaseWarn s).roles = s.roles ∧ (releaseWarn s).wear = s.wear ∧
    (releaseWarn s).attention = s.attention ∧ (releaseWarn s).port = s.port ∧ (releaseWarn s).orders = s.orders ∧
    (releaseWarn s).pending = s.pending := by
  unfold releaseWarn; simp
@[simp] theorem placeProbe_frame (s : State) :
    (placeProbe s).pins = s.pins ∧ (placeProbe s).items = s.items ∧ (placeProbe s).round = s.round ∧
    (placeProbe s).peers = s.peers ∧ (placeProbe s).share = s.share ∧ (placeProbe s).ready = s.ready ∧
    (placeProbe s).engine = s.engine ∧ (placeProbe s).wheel = s.wheel ∧ (placeProbe s).capture = s.capture ∧
    (placeProbe s).outputs = s.outputs ∧ (placeProbe s).roles = s.roles ∧ (placeProbe s).wear = s.wear ∧
    (placeProbe s).attention = s.attention ∧ (placeProbe s).port = s.port ∧ (placeProbe s).orders = s.orders ∧
    (placeProbe s).pending = s.pending := by
  unfold placeProbe; simp
@[simp] theorem stepProbe_frame (s : State) :
    (stepProbe s).pins = s.pins ∧ (stepProbe s).items = s.items ∧ (stepProbe s).round = s.round ∧
    (stepProbe s).peers = s.peers ∧ (stepProbe s).share = s.share ∧ (stepProbe s).ready = s.ready ∧
    (stepProbe s).engine = s.engine ∧ (stepProbe s).wheel = s.wheel ∧ (stepProbe s).capture = s.capture ∧
    (stepProbe s).outputs = s.outputs ∧ (stepProbe s).roles = s.roles ∧ (stepProbe s).wear = s.wear ∧
    (stepProbe s).attention = s.attention ∧ (stepProbe s).port = s.port ∧ (stepProbe s).orders = s.orders ∧
    (stepProbe s).pending = s.pending := by
  unfold stepProbe; simp
@[simp] theorem forgetSilent_frame (s : State) :
    (forgetSilent s).pins = s.pins ∧ (forgetSilent s).items = s.items ∧ (forgetSilent s).link = s.link ∧
    (forgetSilent s).round = s.round ∧ (forgetSilent s).share = s.share ∧ (forgetSilent s).ready = s.ready ∧
    (forgetSilent s).engine = s.engine ∧ (forgetSilent s).wheel = s.wheel ∧ (forgetSilent s).capture = s.capture ∧
    (forgetSilent s).outputs = s.outputs ∧ (forgetSilent s).roles = s.roles ∧ (forgetSilent s).wear = s.wear ∧
    (forgetSilent s).attention = s.attention ∧ (forgetSilent s).port = s.port ∧ (forgetSilent s).orders = s.orders ∧
    (forgetSilent s).pending = s.pending := by
  unfold forgetSilent; simp
@[simp] theorem stepRefresh_frame (s : State) :
    (stepRefresh s).pins = s.pins ∧ (stepRefresh s).items = s.items ∧ (stepRefresh s).round = s.round ∧
    (stepRefresh s).peers = s.peers ∧ (stepRefresh s).share = s.share ∧ (stepRefresh s).ready = s.ready ∧
    (stepRefresh s).engine = s.engine ∧ (stepRefresh s).wheel = s.wheel ∧ (stepRefresh s).capture = s.capture ∧
    (stepRefresh s).outputs = s.outputs ∧ (stepRefresh s).roles = s.roles ∧ (stepRefresh s).attention = s.attention ∧
    (stepRefresh s).port = s.port ∧ (stepRefresh s).orders = s.orders ∧ (stepRefresh s).pending = s.pending := by
  unfold stepRefresh; simp
@[simp] theorem flushEmission_frame (s : State) :
    (flushEmission s).pins = s.pins ∧ (flushEmission s).items = s.items ∧ (flushEmission s).round = s.round ∧
    (flushEmission s).peers = s.peers ∧ (flushEmission s).share = s.share ∧ (flushEmission s).ready = s.ready ∧
    (flushEmission s).engine = s.engine ∧ (flushEmission s).wheel = s.wheel ∧ (flushEmission s).capture = s.capture ∧
    (flushEmission s).outputs = s.outputs ∧ (flushEmission s).roles = s.roles ∧ (flushEmission s).wear = s.wear ∧
    (flushEmission s).attention = s.attention ∧ (flushEmission s).port = s.port ∧ (flushEmission s).orders = s.orders ∧
    (flushEmission s).pending = s.pending := by
  unfold flushEmission; simp
@[simp] theorem turnRound_frame (cause : BoundaryCause) (s : State) :
    (turnRound cause s).pins = s.pins ∧ (turnRound cause s).items = s.items ∧ (turnRound cause s).link = s.link ∧
    (turnRound cause s).peers = s.peers ∧ (turnRound cause s).share = s.share ∧ (turnRound cause s).ready = s.ready ∧
    (turnRound cause s).engine = s.engine ∧ (turnRound cause s).wheel = s.wheel ∧ (turnRound cause s).capture = s.capture ∧
    (turnRound cause s).outputs = s.outputs ∧ (turnRound cause s).roles = s.roles ∧ (turnRound cause s).wear = s.wear ∧
    (turnRound cause s).attention = s.attention ∧ (turnRound cause s).port = s.port ∧ (turnRound cause s).orders = s.orders ∧
    (turnRound cause s).pending = s.pending := by
  unfold turnRound; simp
@[simp] theorem emitAtBoundary_frame (s : State) :
    (emitAtBoundary s).pins = s.pins ∧ (emitAtBoundary s).items = s.items ∧ (emitAtBoundary s).round = s.round ∧
    (emitAtBoundary s).peers = s.peers ∧ (emitAtBoundary s).share = s.share ∧ (emitAtBoundary s).ready = s.ready ∧
    (emitAtBoundary s).engine = s.engine ∧ (emitAtBoundary s).wheel = s.wheel ∧ (emitAtBoundary s).capture = s.capture ∧
    (emitAtBoundary s).outputs = s.outputs ∧ (emitAtBoundary s).roles = s.roles ∧ (emitAtBoundary s).wear = s.wear ∧
    (emitAtBoundary s).attention = s.attention ∧ (emitAtBoundary s).port = s.port ∧ (emitAtBoundary s).orders = s.orders ∧
    (emitAtBoundary s).pending = s.pending := by
  unfold emitAtBoundary; simp
@[simp] theorem shareBoundary_frame (cause : BoundaryCause) (s : State) :
    (shareBoundary cause s).pins = s.pins ∧ (shareBoundary cause s).items = s.items ∧ (shareBoundary cause s).link = s.link ∧
    (shareBoundary cause s).round = s.round ∧ (shareBoundary cause s).peers = s.peers ∧
    (shareBoundary cause s).ready = s.ready ∧ (shareBoundary cause s).engine = s.engine ∧
    (shareBoundary cause s).wheel = s.wheel ∧ (shareBoundary cause s).capture = s.capture ∧
    (shareBoundary cause s).attention = s.attention ∧ (shareBoundary cause s).port = s.port ∧
    (shareBoundary cause s).orders = s.orders ∧ (shareBoundary cause s).pending = s.pending := by
  unfold shareBoundary; (repeat' split) <;> simp
@[simp] theorem roleBoundary_frame (s : State) :
    (roleBoundary s).pins = s.pins ∧ (roleBoundary s).items = s.items ∧ (roleBoundary s).round = s.round ∧
    (roleBoundary s).wheel = s.wheel ∧ (roleBoundary s).capture = s.capture ∧ (roleBoundary s).port = s.port ∧
    (roleBoundary s).pending = s.pending := by
  unfold roleBoundary; dsimp only; (repeat' split) <;> simp [takeOrder]
@[simp] theorem linkBoundary_frame (s : State) :
    (linkBoundary s).pins = s.pins ∧ (linkBoundary s).items = s.items ∧ (linkBoundary s).round = s.round ∧
    (linkBoundary s).peers = s.peers ∧ (linkBoundary s).share = s.share ∧ (linkBoundary s).ready = s.ready ∧
    (linkBoundary s).engine = s.engine ∧ (linkBoundary s).wheel = s.wheel ∧ (linkBoundary s).capture = s.capture ∧
    (linkBoundary s).outputs = s.outputs ∧ (linkBoundary s).roles = s.roles ∧ (linkBoundary s).wear = s.wear ∧
    (linkBoundary s).attention = s.attention ∧ (linkBoundary s).port = s.port ∧ (linkBoundary s).orders = s.orders ∧
    (linkBoundary s).pending = s.pending := by
  unfold linkBoundary; simp
@[simp] theorem peerBoundary_frame (s : State) :
    (peerBoundary s).pins = s.pins ∧ (peerBoundary s).items = s.items ∧ (peerBoundary s).round = s.round ∧
    (peerBoundary s).share = s.share ∧ (peerBoundary s).engine = s.engine ∧ (peerBoundary s).wheel = s.wheel ∧
    (peerBoundary s).capture = s.capture ∧ (peerBoundary s).port = s.port ∧ (peerBoundary s).orders = s.orders ∧
    (peerBoundary s).pending = s.pending := by
  unfold peerBoundary; simp
@[simp] theorem roundBoundary_frame (cause : BoundaryCause) (s : State) :
    (roundBoundary cause s).pins = s.pins ∧ (roundBoundary cause s).items = s.items ∧ (roundBoundary cause s).wheel = s.wheel ∧
    (roundBoundary cause s).capture = s.capture ∧ (roundBoundary cause s).port = s.port ∧
    (roundBoundary cause s).pending = s.pending := by
  unfold roundBoundary; simp

/-! ## Measurement -/

@[simp] theorem convert_frame (c : Fin 4) (level : Int) (s : State) :
    (convert c level s).items = s.items ∧ (convert c level s).link = s.link ∧ (convert c level s).round = s.round ∧
    (convert c level s).peers = s.peers ∧ (convert c level s).share = s.share ∧ (convert c level s).ready = s.ready ∧
    (convert c level s).engine = s.engine ∧ (convert c level s).capture = s.capture ∧ (convert c level s).outputs = s.outputs ∧
    (convert c level s).roles = s.roles ∧ (convert c level s).wear = s.wear ∧ (convert c level s).attention = s.attention ∧
    (convert c level s).port = s.port ∧ (convert c level s).orders = s.orders ∧ (convert c level s).pending = s.pending := by
  unfold convert; simp
@[simp] theorem takeEdge_frame (n : CapName) (s : State) :
    (takeEdge n s).pins = s.pins ∧ (takeEdge n s).items = s.items ∧ (takeEdge n s).link = s.link ∧
    (takeEdge n s).round = s.round ∧ (takeEdge n s).peers = s.peers ∧ (takeEdge n s).share = s.share ∧
    (takeEdge n s).ready = s.ready ∧ (takeEdge n s).engine = s.engine ∧ (takeEdge n s).wheel = s.wheel ∧
    (takeEdge n s).outputs = s.outputs ∧ (takeEdge n s).roles = s.roles ∧ (takeEdge n s).wear = s.wear ∧
    (takeEdge n s).port = s.port ∧ (takeEdge n s).orders = s.orders ∧ (takeEdge n s).pending = s.pending := by
  unfold takeEdge; simp
@[simp] theorem evaluateChannel_frame (n : CapName) (s : State) :
    (evaluateChannel n s).pins = s.pins ∧ (evaluateChannel n s).items = s.items ∧ (evaluateChannel n s).link = s.link ∧
    (evaluateChannel n s).round = s.round ∧ (evaluateChannel n s).peers = s.peers ∧ (evaluateChannel n s).share = s.share ∧
    (evaluateChannel n s).ready = s.ready ∧ (evaluateChannel n s).engine = s.engine ∧ (evaluateChannel n s).wheel = s.wheel ∧
    (evaluateChannel n s).outputs = s.outputs ∧ (evaluateChannel n s).roles = s.roles ∧ (evaluateChannel n s).wear = s.wear ∧
    (evaluateChannel n s).attention = s.attention ∧ (evaluateChannel n s).port = s.port ∧
    (evaluateChannel n s).orders = s.orders ∧ (evaluateChannel n s).pending = s.pending := by
  unfold evaluateChannel; simp
@[simp] theorem stepMonitor_frame (m : Fin 2) (s : State) :
    (stepMonitor m s).pins = s.pins ∧ (stepMonitor m s).items = s.items ∧ (stepMonitor m s).link = s.link ∧
    (stepMonitor m s).round = s.round ∧ (stepMonitor m s).peers = s.peers ∧ (stepMonitor m s).share = s.share ∧
    (stepMonitor m s).capture = s.capture ∧ (stepMonitor m s).port = s.port ∧ (stepMonitor m s).pending = s.pending := by
  unfold stepMonitor; (repeat' split) <;> simp
@[simp] theorem measureDemand_frame (s : State) :
    (measureDemand s).pins = s.pins ∧ (measureDemand s).items = s.items ∧ (measureDemand s).link = s.link ∧
    (measureDemand s).round = s.round ∧ (measureDemand s).peers = s.peers ∧ (measureDemand s).share = s.share ∧
    (measureDemand s).ready = s.ready ∧ (measureDemand s).engine = s.engine ∧ (measureDemand s).wheel = s.wheel ∧
    (measureDemand s).capture = s.capture ∧ (measureDemand s).outputs = s.outputs ∧ (measureDemand s).wear = s.wear ∧
    (measureDemand s).attention = s.attention ∧ (measureDemand s).port = s.port ∧ (measureDemand s).orders = s.orders ∧
    (measureDemand s).pending = s.pending := by
  unfold measureDemand; simp
@[simp] theorem measureGenset_frame (s : State) :
    (measureGenset s).pins = s.pins ∧ (measureGenset s).items = s.items ∧ (measureGenset s).link = s.link ∧
    (measureGenset s).round = s.round ∧ (measureGenset s).peers = s.peers ∧ (measureGenset s).share = s.share ∧
    (measureGenset s).ready = s.ready ∧ (measureGenset s).engine = s.engine ∧ (measureGenset s).wheel = s.wheel ∧
    (measureGenset s).capture = s.capture ∧ (measureGenset s).outputs = s.outputs ∧ (measureGenset s).wear = s.wear ∧
    (measureGenset s).attention = s.attention ∧ (measureGenset s).port = s.port ∧ (measureGenset s).orders = s.orders ∧
    (measureGenset s).pending = s.pending := by
  unfold measureGenset; simp
@[simp] theorem measurePack_frame (s : State) :
    (measurePack s).pins = s.pins ∧ (measurePack s).items = s.items ∧ (measurePack s).round = s.round ∧
    (measurePack s).peers = s.peers ∧ (measurePack s).share = s.share ∧ (measurePack s).engine = s.engine ∧
    (measurePack s).wheel = s.wheel ∧ (measurePack s).capture = s.capture ∧ (measurePack s).port = s.port ∧
    (measurePack s).orders = s.orders ∧ (measurePack s).pending = s.pending := by
  unfold measurePack; simp
@[simp] theorem measureTraction_frame (s : State) :
    (measureTraction s).pins = s.pins ∧ (measureTraction s).items = s.items ∧ (measureTraction s).link = s.link ∧
    (measureTraction s).round = s.round ∧ (measureTraction s).peers = s.peers ∧ (measureTraction s).share = s.share ∧
    (measureTraction s).engine = s.engine ∧ (measureTraction s).wheel = s.wheel ∧ (measureTraction s).capture = s.capture ∧
    (measureTraction s).wear = s.wear ∧ (measureTraction s).attention = s.attention ∧ (measureTraction s).port = s.port ∧
    (measureTraction s).orders = s.orders ∧ (measureTraction s).pending = s.pending := by
  unfold measureTraction; simp
@[simp] theorem measureRole_frame (s : State) :
    (measureRole s).pins = s.pins ∧ (measureRole s).items = s.items ∧ (measureRole s).round = s.round ∧
    (measureRole s).peers = s.peers ∧ (measureRole s).share = s.share ∧ (measureRole s).engine = s.engine ∧
    (measureRole s).wheel = s.wheel ∧ (measureRole s).capture = s.capture ∧ (measureRole s).port = s.port ∧
    (measureRole s).orders = s.orders ∧ (measureRole s).pending = s.pending := by
  unfold measureRole; (repeat' split) <;> simp
@[simp] theorem measureWear_frame (s : State) :
    (measureWear s).pins = s.pins ∧ (measureWear s).items = s.items ∧ (measureWear s).round = s.round ∧
    (measureWear s).peers = s.peers ∧ (measureWear s).share = s.share ∧ (measureWear s).engine = s.engine ∧
    (measureWear s).wheel = s.wheel ∧ (measureWear s).capture = s.capture ∧ (measureWear s).port = s.port ∧
    (measureWear s).orders = s.orders ∧ (measureWear s).pending = s.pending := by
  unfold measureWear; simp
@[simp] theorem measureCurve_frame (s : State) :
    (measureCurve s).pins = s.pins ∧ (measureCurve s).items = s.items ∧ (measureCurve s).link = s.link ∧
    (measureCurve s).round = s.round ∧ (measureCurve s).peers = s.peers ∧ (measureCurve s).share = s.share ∧
    (measureCurve s).engine = s.engine ∧ (measureCurve s).wheel = s.wheel ∧ (measureCurve s).capture = s.capture ∧
    (measureCurve s).wear = s.wear ∧ (measureCurve s).attention = s.attention ∧ (measureCurve s).port = s.port ∧
    (measureCurve s).orders = s.orders ∧ (measureCurve s).pending = s.pending := by
  unfold measureCurve; (repeat' split) <;> simp
@[simp] theorem measure_frame (s : State) :
    (measure s).pins = s.pins ∧ (measure s).items = s.items ∧ (measure s).round = s.round ∧ (measure s).peers = s.peers ∧
    (measure s).share = s.share ∧ (measure s).port = s.port ∧ (measure s).pending = s.pending := by
  unfold measure; simp

/-! ## The link -/

@[simp] theorem takeState_frame (i : Station) (c : StateContent) (s : State) :
    (takeState i c s).pins = s.pins ∧ (takeState i c s).items = s.items ∧ (takeState i c s).round = s.round ∧
    (takeState i c s).share = s.share ∧ (takeState i c s).engine = s.engine ∧ (takeState i c s).wheel = s.wheel ∧
    (takeState i c s).capture = s.capture ∧ (takeState i c s).port = s.port ∧ (takeState i c s).orders = s.orders ∧
    (takeState i c s).pending = s.pending := by
  unfold takeState; simp
@[simp] theorem takeWarn_frame (i : Station) (c : WarnContent) (s : State) :
    (takeWarn i c s).pins = s.pins ∧ (takeWarn i c s).items = s.items ∧ (takeWarn i c s).link = s.link ∧
    (takeWarn i c s).round = s.round ∧ (takeWarn i c s).share = s.share ∧ (takeWarn i c s).ready = s.ready ∧
    (takeWarn i c s).engine = s.engine ∧ (takeWarn i c s).wheel = s.wheel ∧ (takeWarn i c s).capture = s.capture ∧
    (takeWarn i c s).outputs = s.outputs ∧ (takeWarn i c s).roles = s.roles ∧ (takeWarn i c s).wear = s.wear ∧
    (takeWarn i c s).attention = s.attention ∧ (takeWarn i c s).port = s.port ∧ (takeWarn i c s).orders = s.orders ∧
    (takeWarn i c s).pending = s.pending := by
  unfold takeWarn; simp
@[simp] theorem settleStale_frame (s : State) :
    (settleStale s).pins = s.pins ∧ (settleStale s).items = s.items ∧ (settleStale s).link = s.link ∧
    (settleStale s).round = s.round ∧ (settleStale s).peers = s.peers ∧ (settleStale s).ready = s.ready ∧
    (settleStale s).engine = s.engine ∧ (settleStale s).wheel = s.wheel ∧ (settleStale s).capture = s.capture ∧
    (settleStale s).outputs = s.outputs ∧ (settleStale s).roles = s.roles ∧ (settleStale s).wear = s.wear ∧
    (settleStale s).attention = s.attention ∧ (settleStale s).port = s.port ∧ (settleStale s).orders = s.orders ∧
    (settleStale s).pending = s.pending := by
  unfold settleStale; simp
@[simp] theorem takeDemand_frame (i : Station) (c : DemandContent) (s : State) :
    (takeDemand i c s).pins = s.pins ∧ (takeDemand i c s).items = s.items ∧ (takeDemand i c s).wheel = s.wheel ∧
    (takeDemand i c s).capture = s.capture ∧ (takeDemand i c s).port = s.port ∧ (takeDemand i c s).pending = s.pending := by
  unfold takeDemand; simp
@[simp] theorem takeCease_frame (i : Station) (c : CeaseContent) (s : State) :
    (takeCease i c s).pins = s.pins ∧ (takeCease i c s).items = s.items ∧ (takeCease i c s).link = s.link ∧
    (takeCease i c s).round = s.round ∧ (takeCease i c s).peers = s.peers ∧ (takeCease i c s).ready = s.ready ∧
    (takeCease i c s).engine = s.engine ∧ (takeCease i c s).wheel = s.wheel ∧ (takeCease i c s).capture = s.capture ∧
    (takeCease i c s).attention = s.attention ∧ (takeCease i c s).port = s.port ∧ (takeCease i c s).orders = s.orders ∧
    (takeCease i c s).pending = s.pending := by
  unfold takeCease; simp
@[simp] theorem reportClash_frame (s : State) :
    (reportClash s).pins = s.pins ∧ (reportClash s).items = s.items ∧ (reportClash s).round = s.round ∧
    (reportClash s).peers = s.peers ∧ (reportClash s).share = s.share ∧ (reportClash s).wheel = s.wheel ∧
    (reportClash s).capture = s.capture ∧ (reportClash s).port = s.port ∧ (reportClash s).orders = s.orders ∧
    (reportClash s).pending = s.pending := by
  unfold reportClash; simp
@[simp] theorem clash_frame (s : State) :
    (clash s).pins = s.pins ∧ (clash s).items = s.items ∧ (clash s).round = s.round ∧ (clash s).peers = s.peers ∧
    (clash s).share = s.share ∧ (clash s).wheel = s.wheel ∧ (clash s).capture = s.capture ∧ (clash s).port = s.port ∧
    (clash s).orders = s.orders ∧ (clash s).pending = s.pending := by
  unfold clash; simp
@[simp] theorem contend_frame (rival : Option (BitVec 6)) (s : State) :
    (contend rival s).pins = s.pins ∧ (contend rival s).items = s.items ∧ (contend rival s).round = s.round ∧
    (contend rival s).peers = s.peers ∧ (contend rival s).share = s.share ∧ (contend rival s).ready = s.ready ∧
    (contend rival s).engine = s.engine ∧ (contend rival s).wheel = s.wheel ∧ (contend rival s).capture = s.capture ∧
    (contend rival s).outputs = s.outputs ∧ (contend rival s).roles = s.roles ∧ (contend rival s).wear = s.wear ∧
    (contend rival s).attention = s.attention ∧ (contend rival s).port = s.port ∧ (contend rival s).orders = s.orders ∧
    (contend rival s).pending = s.pending := by
  unfold contend; (repeat' split) <;> simp
@[simp] theorem startHoldOff_frame (k : FrameKind) (s : State) :
    (startHoldOff k s).pins = s.pins ∧ (startHoldOff k s).items = s.items ∧ (startHoldOff k s).round = s.round ∧
    (startHoldOff k s).peers = s.peers ∧ (startHoldOff k s).share = s.share ∧ (startHoldOff k s).ready = s.ready ∧
    (startHoldOff k s).engine = s.engine ∧ (startHoldOff k s).wheel = s.wheel ∧ (startHoldOff k s).capture = s.capture ∧
    (startHoldOff k s).outputs = s.outputs ∧ (startHoldOff k s).roles = s.roles ∧ (startHoldOff k s).wear = s.wear ∧
    (startHoldOff k s).attention = s.attention ∧ (startHoldOff k s).port = s.port ∧ (startHoldOff k s).orders = s.orders ∧
    (startHoldOff k s).pending = s.pending := by
  unfold startHoldOff; simp
@[simp] theorem endIsolation_frame (s : State) :
    (endIsolation s).pins = s.pins ∧ (endIsolation s).items = s.items ∧ (endIsolation s).round = s.round ∧
    (endIsolation s).peers = s.peers ∧ (endIsolation s).share = s.share ∧ (endIsolation s).ready = s.ready ∧
    (endIsolation s).engine = s.engine ∧ (endIsolation s).wheel = s.wheel ∧ (endIsolation s).capture = s.capture ∧
    (endIsolation s).port = s.port ∧ (endIsolation s).orders = s.orders ∧ (endIsolation s).pending = s.pending := by
  unfold endIsolation changeLink; simp
@[simp] theorem succeed_frame (c : Copy) (s : State) :
    (succeed c s).pins = s.pins ∧ (succeed c s).items = s.items ∧ (succeed c s).round = s.round ∧
    (succeed c s).peers = s.peers ∧ (succeed c s).share = s.share ∧ (succeed c s).ready = s.ready ∧
    (succeed c s).engine = s.engine ∧ (succeed c s).wheel = s.wheel ∧ (succeed c s).capture = s.capture ∧
    (succeed c s).port = s.port ∧ (succeed c s).orders = s.orders ∧ (succeed c s).pending = s.pending := by
  unfold succeed; simp
@[simp] theorem isolate_frame (s : State) :
    (isolate s).pins = s.pins ∧ (isolate s).items = s.items ∧ (isolate s).round = s.round ∧ (isolate s).peers = s.peers ∧
    (isolate s).share = s.share ∧ (isolate s).ready = s.ready ∧ (isolate s).engine = s.engine ∧ (isolate s).wheel = s.wheel ∧
    (isolate s).capture = s.capture ∧ (isolate s).port = s.port ∧ (isolate s).orders = s.orders ∧
    (isolate s).pending = s.pending := by
  unfold isolate; simp
@[simp] theorem exhaust_frame (k : FrameKind) (s : State) :
    (exhaust k s).pins = s.pins ∧ (exhaust k s).items = s.items ∧ (exhaust k s).round = s.round ∧
    (exhaust k s).peers = s.peers ∧ (exhaust k s).share = s.share ∧ (exhaust k s).ready = s.ready ∧
    (exhaust k s).engine = s.engine ∧ (exhaust k s).wheel = s.wheel ∧ (exhaust k s).capture = s.capture ∧
    (exhaust k s).port = s.port ∧ (exhaust k s).orders = s.orders ∧ (exhaust k s).pending = s.pending := by
  unfold exhaust; simp
@[simp] theorem failSlot_frame (k : FrameKind) (x : Slot) (s : State) :
    (failSlot k x s).pins = s.pins ∧ (failSlot k x s).items = s.items ∧ (failSlot k x s).round = s.round ∧
    (failSlot k x s).peers = s.peers ∧ (failSlot k x s).share = s.share ∧ (failSlot k x s).ready = s.ready ∧
    (failSlot k x s).engine = s.engine ∧ (failSlot k x s).wheel = s.wheel ∧ (failSlot k x s).capture = s.capture ∧
    (failSlot k x s).port = s.port ∧ (failSlot k x s).orders = s.orders ∧ (failSlot k x s).pending = s.pending := by
  unfold failSlot; simp
@[simp] theorem fail_frame (c : Copy) (s : State) :
    (fail c s).pins = s.pins ∧ (fail c s).items = s.items ∧ (fail c s).round = s.round ∧ (fail c s).peers = s.peers ∧
    (fail c s).share = s.share ∧ (fail c s).ready = s.ready ∧ (fail c s).engine = s.engine ∧ (fail c s).wheel = s.wheel ∧
    (fail c s).capture = s.capture ∧ (fail c s).port = s.port ∧ (fail c s).orders = s.orders ∧
    (fail c s).pending = s.pending := by
  unfold fail; dsimp only; (repeat' split) <;> simp

/-! ## Completion of a pass -/

@[simp] theorem completeGenset_frame (p : Plan) (soc : Int) (s : State) :
    (completeGenset p soc s).pins = s.pins ∧ (completeGenset p soc s).items = s.items ∧
    (completeGenset p soc s).round = s.round ∧ (completeGenset p soc s).peers = s.peers ∧
    (completeGenset p soc s).share = s.share ∧ (completeGenset p soc s).wheel = s.wheel ∧
    (completeGenset p soc s).capture = s.capture ∧ (completeGenset p soc s).port = s.port ∧
    (completeGenset p soc s).orders = s.orders ∧ (completeGenset p soc s).pending = s.pending := by
  unfold completeGenset; simp
@[simp] theorem completeFriction_frame (p : Plan) (applied : Nat) (s : State) :
    (completeFriction p applied s).pins = s.pins ∧ (completeFriction p applied s).items = s.items ∧ (completeFriction p applied s).round = s.round ∧
    (completeFriction p applied s).peers = s.peers ∧ (completeFriction p applied s).share = s.share ∧
    (completeFriction p applied s).engine = s.engine ∧ (completeFriction p applied s).wheel = s.wheel ∧
    (completeFriction p applied s).capture = s.capture ∧ (completeFriction p applied s).port = s.port ∧
    (completeFriction p applied s).orders = s.orders ∧ (completeFriction p applied s).pending = s.pending := by
  unfold completeFriction; simp
@[simp] theorem completeTraction_frame (s : State) :
    (completeTraction s).pins = s.pins ∧ (completeTraction s).items = s.items ∧ (completeTraction s).link = s.link ∧
    (completeTraction s).round = s.round ∧ (completeTraction s).peers = s.peers ∧ (completeTraction s).share = s.share ∧
    (completeTraction s).ready = s.ready ∧ (completeTraction s).engine = s.engine ∧ (completeTraction s).wheel = s.wheel ∧
    (completeTraction s).capture = s.capture ∧ (completeTraction s).attention = s.attention ∧
    (completeTraction s).port = s.port ∧ (completeTraction s).orders = s.orders ∧ (completeTraction s).pending = s.pending := by
  unfold completeTraction; simp
@[simp] theorem completeRole_frame (p : Plan) (soc : Int) (applied : Nat) (s : State) :
    (completeRole p soc applied s).pins = s.pins ∧ (completeRole p soc applied s).items = s.items ∧ (completeRole p soc applied s).round = s.round ∧
    (completeRole p soc applied s).peers = s.peers ∧ (completeRole p soc applied s).share = s.share ∧ (completeRole p soc applied s).wheel = s.wheel ∧
    (completeRole p soc applied s).capture = s.capture ∧ (completeRole p soc applied s).port = s.port ∧
    (completeRole p soc applied s).orders = s.orders ∧ (completeRole p soc applied s).pending = s.pending := by
  unfold completeRole; (repeat' split) <;> simp
@[simp] theorem complete_frame (n : Snapshot) (s : State) :
    (complete n s).pins = s.pins ∧ (complete n s).items = s.items ∧ (complete n s).round = s.round ∧
    (complete n s).peers = s.peers ∧ (complete n s).wheel = s.wheel ∧ (complete n s).capture = s.capture ∧
    (complete n s).port = s.port ∧ (complete n s).orders = s.orders ∧ (complete n s).pending = s.pending := by
  unfold complete; simp

/-! ## Loaders -/

/-! A loader keeps what its store keeps. -/

/-- A loader under an index refuses, the state untouched, or loads at the index (R199). -/
theorem withIndex_all {n : Nat} (P : State → Prop) (index : Byte) (s : State) (g : Fin n → Reply × State) (h0 : P s)
    (h : ∀ i, P (g i).2) : P (withIndex n index s g).2 := by
  unfold withIndex
  split
  · exact h0
  · exact h _

@[simp] theorem storeNat_pins (lo hi : Nat) (v : BitVec 32) (store : Nat → State → State) (s : State)
    (h : ∀ n, (store n s).pins = s.pins) : (storeNat lo hi v store s).2.pins = s.pins := h _
@[simp] theorem storeInt_pins (lo hi : Int) (v : BitVec 32) (store : Int → State → State) (s : State)
    (h : ∀ n, (store n s).pins = s.pins) : (storeInt lo hi v store s).2.pins = s.pins := h _
@[simp] theorem withIndex_pins (n : Nat) (index : Byte) (s : State) (g : Fin n → Reply × State)
    (h : ∀ i, (g i).2.pins = s.pins) : (withIndex n index s g).2.pins = s.pins := by
  unfold withIndex; split <;> simp [h]
@[simp] theorem itep_pins (c : Prop) [Decidable c] (a b : Reply × State) :
    (if c then a else b).2.pins = if c then a.2.pins else b.2.pins := apply_ite (fun x : Reply × State => x.2.pins) c a b
@[simp] theorem storeNat_items (lo hi : Nat) (v : BitVec 32) (store : Nat → State → State) (s : State)
    (h : ∀ n, (store n s).items = s.items) : (storeNat lo hi v store s).2.items = s.items := h _
@[simp] theorem storeInt_items (lo hi : Int) (v : BitVec 32) (store : Int → State → State) (s : State)
    (h : ∀ n, (store n s).items = s.items) : (storeInt lo hi v store s).2.items = s.items := h _
@[simp] theorem withIndex_items (n : Nat) (index : Byte) (s : State) (g : Fin n → Reply × State)
    (h : ∀ i, (g i).2.items = s.items) : (withIndex n index s g).2.items = s.items := by
  unfold withIndex; split <;> simp [h]
@[simp] theorem itep_items (c : Prop) [Decidable c] (a b : Reply × State) :
    (if c then a else b).2.items = if c then a.2.items else b.2.items := apply_ite (fun x : Reply × State => x.2.items) c a b
@[simp] theorem storeNat_link (lo hi : Nat) (v : BitVec 32) (store : Nat → State → State) (s : State)
    (h : ∀ n, (store n s).link = s.link) : (storeNat lo hi v store s).2.link = s.link := h _
@[simp] theorem storeInt_link (lo hi : Int) (v : BitVec 32) (store : Int → State → State) (s : State)
    (h : ∀ n, (store n s).link = s.link) : (storeInt lo hi v store s).2.link = s.link := h _
@[simp] theorem withIndex_link (n : Nat) (index : Byte) (s : State) (g : Fin n → Reply × State)
    (h : ∀ i, (g i).2.link = s.link) : (withIndex n index s g).2.link = s.link := by
  unfold withIndex; split <;> simp [h]
@[simp] theorem itep_link (c : Prop) [Decidable c] (a b : Reply × State) :
    (if c then a else b).2.link = if c then a.2.link else b.2.link := apply_ite (fun x : Reply × State => x.2.link) c a b
@[simp] theorem storeNat_round (lo hi : Nat) (v : BitVec 32) (store : Nat → State → State) (s : State)
    (h : ∀ n, (store n s).round = s.round) : (storeNat lo hi v store s).2.round = s.round := h _
@[simp] theorem storeInt_round (lo hi : Int) (v : BitVec 32) (store : Int → State → State) (s : State)
    (h : ∀ n, (store n s).round = s.round) : (storeInt lo hi v store s).2.round = s.round := h _
@[simp] theorem withIndex_round (n : Nat) (index : Byte) (s : State) (g : Fin n → Reply × State)
    (h : ∀ i, (g i).2.round = s.round) : (withIndex n index s g).2.round = s.round := by
  unfold withIndex; split <;> simp [h]
@[simp] theorem itep_round (c : Prop) [Decidable c] (a b : Reply × State) :
    (if c then a else b).2.round = if c then a.2.round else b.2.round := apply_ite (fun x : Reply × State => x.2.round) c a b
@[simp] theorem storeNat_peers (lo hi : Nat) (v : BitVec 32) (store : Nat → State → State) (s : State)
    (h : ∀ n, (store n s).peers = s.peers) : (storeNat lo hi v store s).2.peers = s.peers := h _
@[simp] theorem storeInt_peers (lo hi : Int) (v : BitVec 32) (store : Int → State → State) (s : State)
    (h : ∀ n, (store n s).peers = s.peers) : (storeInt lo hi v store s).2.peers = s.peers := h _
@[simp] theorem withIndex_peers (n : Nat) (index : Byte) (s : State) (g : Fin n → Reply × State)
    (h : ∀ i, (g i).2.peers = s.peers) : (withIndex n index s g).2.peers = s.peers := by
  unfold withIndex; split <;> simp [h]
@[simp] theorem itep_peers (c : Prop) [Decidable c] (a b : Reply × State) :
    (if c then a else b).2.peers = if c then a.2.peers else b.2.peers := apply_ite (fun x : Reply × State => x.2.peers) c a b
@[simp] theorem storeNat_share (lo hi : Nat) (v : BitVec 32) (store : Nat → State → State) (s : State)
    (h : ∀ n, (store n s).share = s.share) : (storeNat lo hi v store s).2.share = s.share := h _
@[simp] theorem storeInt_share (lo hi : Int) (v : BitVec 32) (store : Int → State → State) (s : State)
    (h : ∀ n, (store n s).share = s.share) : (storeInt lo hi v store s).2.share = s.share := h _
@[simp] theorem withIndex_share (n : Nat) (index : Byte) (s : State) (g : Fin n → Reply × State)
    (h : ∀ i, (g i).2.share = s.share) : (withIndex n index s g).2.share = s.share := by
  unfold withIndex; split <;> simp [h]
@[simp] theorem itep_share (c : Prop) [Decidable c] (a b : Reply × State) :
    (if c then a else b).2.share = if c then a.2.share else b.2.share := apply_ite (fun x : Reply × State => x.2.share) c a b
@[simp] theorem storeNat_ready (lo hi : Nat) (v : BitVec 32) (store : Nat → State → State) (s : State)
    (h : ∀ n, (store n s).ready = s.ready) : (storeNat lo hi v store s).2.ready = s.ready := h _
@[simp] theorem storeInt_ready (lo hi : Int) (v : BitVec 32) (store : Int → State → State) (s : State)
    (h : ∀ n, (store n s).ready = s.ready) : (storeInt lo hi v store s).2.ready = s.ready := h _
@[simp] theorem withIndex_ready (n : Nat) (index : Byte) (s : State) (g : Fin n → Reply × State)
    (h : ∀ i, (g i).2.ready = s.ready) : (withIndex n index s g).2.ready = s.ready := by
  unfold withIndex; split <;> simp [h]
@[simp] theorem itep_ready (c : Prop) [Decidable c] (a b : Reply × State) :
    (if c then a else b).2.ready = if c then a.2.ready else b.2.ready := apply_ite (fun x : Reply × State => x.2.ready) c a b
@[simp] theorem storeNat_engine (lo hi : Nat) (v : BitVec 32) (store : Nat → State → State) (s : State)
    (h : ∀ n, (store n s).engine = s.engine) : (storeNat lo hi v store s).2.engine = s.engine := h _
@[simp] theorem storeInt_engine (lo hi : Int) (v : BitVec 32) (store : Int → State → State) (s : State)
    (h : ∀ n, (store n s).engine = s.engine) : (storeInt lo hi v store s).2.engine = s.engine := h _
@[simp] theorem withIndex_engine (n : Nat) (index : Byte) (s : State) (g : Fin n → Reply × State)
    (h : ∀ i, (g i).2.engine = s.engine) : (withIndex n index s g).2.engine = s.engine := by
  unfold withIndex; split <;> simp [h]
@[simp] theorem itep_engine (c : Prop) [Decidable c] (a b : Reply × State) :
    (if c then a else b).2.engine = if c then a.2.engine else b.2.engine := apply_ite (fun x : Reply × State => x.2.engine) c a b
@[simp] theorem storeNat_wheel (lo hi : Nat) (v : BitVec 32) (store : Nat → State → State) (s : State)
    (h : ∀ n, (store n s).wheel = s.wheel) : (storeNat lo hi v store s).2.wheel = s.wheel := h _
@[simp] theorem storeInt_wheel (lo hi : Int) (v : BitVec 32) (store : Int → State → State) (s : State)
    (h : ∀ n, (store n s).wheel = s.wheel) : (storeInt lo hi v store s).2.wheel = s.wheel := h _
@[simp] theorem withIndex_wheel (n : Nat) (index : Byte) (s : State) (g : Fin n → Reply × State)
    (h : ∀ i, (g i).2.wheel = s.wheel) : (withIndex n index s g).2.wheel = s.wheel := by
  unfold withIndex; split <;> simp [h]
@[simp] theorem itep_wheel (c : Prop) [Decidable c] (a b : Reply × State) :
    (if c then a else b).2.wheel = if c then a.2.wheel else b.2.wheel := apply_ite (fun x : Reply × State => x.2.wheel) c a b
@[simp] theorem storeNat_capture (lo hi : Nat) (v : BitVec 32) (store : Nat → State → State) (s : State)
    (h : ∀ n, (store n s).capture = s.capture) : (storeNat lo hi v store s).2.capture = s.capture := h _
@[simp] theorem storeInt_capture (lo hi : Int) (v : BitVec 32) (store : Int → State → State) (s : State)
    (h : ∀ n, (store n s).capture = s.capture) : (storeInt lo hi v store s).2.capture = s.capture := h _
@[simp] theorem withIndex_capture (n : Nat) (index : Byte) (s : State) (g : Fin n → Reply × State)
    (h : ∀ i, (g i).2.capture = s.capture) : (withIndex n index s g).2.capture = s.capture := by
  unfold withIndex; split <;> simp [h]
@[simp] theorem itep_capture (c : Prop) [Decidable c] (a b : Reply × State) :
    (if c then a else b).2.capture = if c then a.2.capture else b.2.capture := apply_ite (fun x : Reply × State => x.2.capture) c a b
@[simp] theorem storeNat_outputs (lo hi : Nat) (v : BitVec 32) (store : Nat → State → State) (s : State)
    (h : ∀ n, (store n s).outputs = s.outputs) : (storeNat lo hi v store s).2.outputs = s.outputs := h _
@[simp] theorem storeInt_outputs (lo hi : Int) (v : BitVec 32) (store : Int → State → State) (s : State)
    (h : ∀ n, (store n s).outputs = s.outputs) : (storeInt lo hi v store s).2.outputs = s.outputs := h _
@[simp] theorem withIndex_outputs (n : Nat) (index : Byte) (s : State) (g : Fin n → Reply × State)
    (h : ∀ i, (g i).2.outputs = s.outputs) : (withIndex n index s g).2.outputs = s.outputs := by
  unfold withIndex; split <;> simp [h]
@[simp] theorem itep_outputs (c : Prop) [Decidable c] (a b : Reply × State) :
    (if c then a else b).2.outputs = if c then a.2.outputs else b.2.outputs := apply_ite (fun x : Reply × State => x.2.outputs) c a b
@[simp] theorem storeNat_roles (lo hi : Nat) (v : BitVec 32) (store : Nat → State → State) (s : State)
    (h : ∀ n, (store n s).roles = s.roles) : (storeNat lo hi v store s).2.roles = s.roles := h _
@[simp] theorem storeInt_roles (lo hi : Int) (v : BitVec 32) (store : Int → State → State) (s : State)
    (h : ∀ n, (store n s).roles = s.roles) : (storeInt lo hi v store s).2.roles = s.roles := h _
@[simp] theorem withIndex_roles (n : Nat) (index : Byte) (s : State) (g : Fin n → Reply × State)
    (h : ∀ i, (g i).2.roles = s.roles) : (withIndex n index s g).2.roles = s.roles := by
  unfold withIndex; split <;> simp [h]
@[simp] theorem itep_roles (c : Prop) [Decidable c] (a b : Reply × State) :
    (if c then a else b).2.roles = if c then a.2.roles else b.2.roles := apply_ite (fun x : Reply × State => x.2.roles) c a b
@[simp] theorem storeNat_wear (lo hi : Nat) (v : BitVec 32) (store : Nat → State → State) (s : State)
    (h : ∀ n, (store n s).wear = s.wear) : (storeNat lo hi v store s).2.wear = s.wear := h _
@[simp] theorem storeInt_wear (lo hi : Int) (v : BitVec 32) (store : Int → State → State) (s : State)
    (h : ∀ n, (store n s).wear = s.wear) : (storeInt lo hi v store s).2.wear = s.wear := h _
@[simp] theorem withIndex_wear (n : Nat) (index : Byte) (s : State) (g : Fin n → Reply × State)
    (h : ∀ i, (g i).2.wear = s.wear) : (withIndex n index s g).2.wear = s.wear := by
  unfold withIndex; split <;> simp [h]
@[simp] theorem itep_wear (c : Prop) [Decidable c] (a b : Reply × State) :
    (if c then a else b).2.wear = if c then a.2.wear else b.2.wear := apply_ite (fun x : Reply × State => x.2.wear) c a b
@[simp] theorem storeNat_attention (lo hi : Nat) (v : BitVec 32) (store : Nat → State → State) (s : State)
    (h : ∀ n, (store n s).attention = s.attention) : (storeNat lo hi v store s).2.attention = s.attention := h _
@[simp] theorem storeInt_attention (lo hi : Int) (v : BitVec 32) (store : Int → State → State) (s : State)
    (h : ∀ n, (store n s).attention = s.attention) : (storeInt lo hi v store s).2.attention = s.attention := h _
@[simp] theorem withIndex_attention (n : Nat) (index : Byte) (s : State) (g : Fin n → Reply × State)
    (h : ∀ i, (g i).2.attention = s.attention) : (withIndex n index s g).2.attention = s.attention := by
  unfold withIndex; split <;> simp [h]
@[simp] theorem itep_attention (c : Prop) [Decidable c] (a b : Reply × State) :
    (if c then a else b).2.attention = if c then a.2.attention else b.2.attention := apply_ite (fun x : Reply × State => x.2.attention) c a b
@[simp] theorem storeNat_port (lo hi : Nat) (v : BitVec 32) (store : Nat → State → State) (s : State)
    (h : ∀ n, (store n s).port = s.port) : (storeNat lo hi v store s).2.port = s.port := h _
@[simp] theorem storeInt_port (lo hi : Int) (v : BitVec 32) (store : Int → State → State) (s : State)
    (h : ∀ n, (store n s).port = s.port) : (storeInt lo hi v store s).2.port = s.port := h _
@[simp] theorem withIndex_port (n : Nat) (index : Byte) (s : State) (g : Fin n → Reply × State)
    (h : ∀ i, (g i).2.port = s.port) : (withIndex n index s g).2.port = s.port := by
  unfold withIndex; split <;> simp [h]
@[simp] theorem itep_port (c : Prop) [Decidable c] (a b : Reply × State) :
    (if c then a else b).2.port = if c then a.2.port else b.2.port := apply_ite (fun x : Reply × State => x.2.port) c a b
@[simp] theorem storeNat_orders (lo hi : Nat) (v : BitVec 32) (store : Nat → State → State) (s : State)
    (h : ∀ n, (store n s).orders = s.orders) : (storeNat lo hi v store s).2.orders = s.orders := h _
@[simp] theorem storeInt_orders (lo hi : Int) (v : BitVec 32) (store : Int → State → State) (s : State)
    (h : ∀ n, (store n s).orders = s.orders) : (storeInt lo hi v store s).2.orders = s.orders := h _
@[simp] theorem withIndex_orders (n : Nat) (index : Byte) (s : State) (g : Fin n → Reply × State)
    (h : ∀ i, (g i).2.orders = s.orders) : (withIndex n index s g).2.orders = s.orders := by
  unfold withIndex; split <;> simp [h]
@[simp] theorem itep_orders (c : Prop) [Decidable c] (a b : Reply × State) :
    (if c then a else b).2.orders = if c then a.2.orders else b.2.orders := apply_ite (fun x : Reply × State => x.2.orders) c a b
@[simp] theorem storeNat_pending (lo hi : Nat) (v : BitVec 32) (store : Nat → State → State) (s : State)
    (h : ∀ n, (store n s).pending = s.pending) : (storeNat lo hi v store s).2.pending = s.pending := h _
@[simp] theorem storeInt_pending (lo hi : Int) (v : BitVec 32) (store : Int → State → State) (s : State)
    (h : ∀ n, (store n s).pending = s.pending) : (storeInt lo hi v store s).2.pending = s.pending := h _
@[simp] theorem withIndex_pending (n : Nat) (index : Byte) (s : State) (g : Fin n → Reply × State)
    (h : ∀ i, (g i).2.pending = s.pending) : (withIndex n index s g).2.pending = s.pending := by
  unfold withIndex; split <;> simp [h]
@[simp] theorem itep_pending (c : Prop) [Decidable c] (a b : Reply × State) :
    (if c then a else b).2.pending = if c then a.2.pending else b.2.pending := apply_ite (fun x : Reply × State => x.2.pending) c a b
@[simp] theorem onItems_frame (f : Items → Items) (s : State) :
    (onItems f s).pins = s.pins ∧ (onItems f s).link = s.link ∧ (onItems f s).round = s.round ∧ (onItems f s).peers = s.peers ∧
    (onItems f s).share = s.share ∧ (onItems f s).ready = s.ready ∧ (onItems f s).engine = s.engine ∧
    (onItems f s).wheel = s.wheel ∧ (onItems f s).capture = s.capture ∧ (onItems f s).outputs = s.outputs ∧
    (onItems f s).roles = s.roles ∧ (onItems f s).wear = s.wear ∧ (onItems f s).attention = s.attention ∧
    (onItems f s).port = s.port ∧ (onItems f s).orders = s.orders ∧ (onItems f s).pending = s.pending := by
  unfold onItems; simp
@[simp] theorem loadLink_frame (place : Nat) (v : BitVec 32) (s : State) :
    (loadLink place v s).2.pins = s.pins ∧ (loadLink place v s).2.round = s.round ∧ (loadLink place v s).2.peers = s.peers ∧
    (loadLink place v s).2.share = s.share ∧ (loadLink place v s).2.ready = s.ready ∧
    (loadLink place v s).2.engine = s.engine ∧ (loadLink place v s).2.wheel = s.wheel ∧
    (loadLink place v s).2.capture = s.capture ∧ (loadLink place v s).2.outputs = s.outputs ∧
    (loadLink place v s).2.roles = s.roles ∧ (loadLink place v s).2.wear = s.wear ∧
    (loadLink place v s).2.attention = s.attention ∧ (loadLink place v s).2.port = s.port ∧
    (loadLink place v s).2.orders = s.orders ∧ (loadLink place v s).2.pending = s.pending := by
  unfold loadLink; (repeat' split) <;> simp
@[simp] theorem onSharing_frame (f : Sharing → Sharing) (s : State) :
    (onSharing f s).pins = s.pins ∧ (onSharing f s).link = s.link ∧ (onSharing f s).round = s.round ∧
    (onSharing f s).peers = s.peers ∧ (onSharing f s).share = s.share ∧ (onSharing f s).ready = s.ready ∧
    (onSharing f s).engine = s.engine ∧ (onSharing f s).wheel = s.wheel ∧ (onSharing f s).capture = s.capture ∧
    (onSharing f s).outputs = s.outputs ∧ (onSharing f s).roles = s.roles ∧ (onSharing f s).wear = s.wear ∧
    (onSharing f s).attention = s.attention ∧ (onSharing f s).port = s.port ∧ (onSharing f s).orders = s.orders ∧
    (onSharing f s).pending = s.pending := by
  unfold onSharing; simp
@[simp] theorem loadSharing_frame (place : Nat) (index : Byte) (v : BitVec 32) (s : State) :
    (loadSharing place index v s).2.pins = s.pins ∧ (loadSharing place index v s).2.round = s.round ∧
    (loadSharing place index v s).2.peers = s.peers ∧ (loadSharing place index v s).2.share = s.share ∧
    (loadSharing place index v s).2.ready = s.ready ∧ (loadSharing place index v s).2.engine = s.engine ∧
    (loadSharing place index v s).2.wheel = s.wheel ∧ (loadSharing place index v s).2.capture = s.capture ∧
    (loadSharing place index v s).2.outputs = s.outputs ∧ (loadSharing place index v s).2.roles = s.roles ∧
    (loadSharing place index v s).2.wear = s.wear ∧ (loadSharing place index v s).2.attention = s.attention ∧
    (loadSharing place index v s).2.port = s.port ∧ (loadSharing place index v s).2.orders = s.orders ∧
    (loadSharing place index v s).2.pending = s.pending := by
  unfold loadSharing; (repeat' split) <;> simp
@[simp] theorem loadReadiness_frame (place : Nat) (index : Byte) (v : BitVec 32) (s : State) :
    (loadReadiness place index v s).2.pins = s.pins ∧ (loadReadiness place index v s).2.round = s.round ∧
    (loadReadiness place index v s).2.peers = s.peers ∧ (loadReadiness place index v s).2.share = s.share ∧
    (loadReadiness place index v s).2.wheel = s.wheel ∧ (loadReadiness place index v s).2.capture = s.capture ∧
    (loadReadiness place index v s).2.port = s.port ∧ (loadReadiness place index v s).2.orders = s.orders ∧
    (loadReadiness place index v s).2.pending = s.pending := by
  unfold loadReadiness; (repeat' split) <;> simp
@[simp] theorem loadLists_frame (place : Nat) (index : Byte) (v : BitVec 32) (s : State) :
    (loadLists place index v s).2.pins = s.pins ∧ (loadLists place index v s).2.round = s.round ∧
    (loadLists place index v s).2.peers = s.peers ∧ (loadLists place index v s).2.share = s.share ∧
    (loadLists place index v s).2.ready = s.ready ∧ (loadLists place index v s).2.engine = s.engine ∧
    (loadLists place index v s).2.wheel = s.wheel ∧ (loadLists place index v s).2.capture = s.capture ∧
    (loadLists place index v s).2.outputs = s.outputs ∧ (loadLists place index v s).2.roles = s.roles ∧
    (loadLists place index v s).2.wear = s.wear ∧ (loadLists place index v s).2.attention = s.attention ∧
    (loadLists place index v s).2.port = s.port ∧ (loadLists place index v s).2.orders = s.orders ∧
    (loadLists place index v s).2.pending = s.pending := by
  unfold loadLists; (repeat' split) <;> simp
@[simp] theorem onChannel_frame (c : Fin 4) (f : ChannelItems → ChannelItems) (s : State) :
    (onChannel c f s).pins = s.pins ∧ (onChannel c f s).link = s.link ∧ (onChannel c f s).round = s.round ∧
    (onChannel c f s).peers = s.peers ∧ (onChannel c f s).share = s.share ∧ (onChannel c f s).ready = s.ready ∧
    (onChannel c f s).engine = s.engine ∧ (onChannel c f s).capture = s.capture ∧ (onChannel c f s).outputs = s.outputs ∧
    (onChannel c f s).roles = s.roles ∧ (onChannel c f s).wear = s.wear ∧ (onChannel c f s).attention = s.attention ∧
    (onChannel c f s).port = s.port ∧ (onChannel c f s).orders = s.orders ∧ (onChannel c f s).pending = s.pending := by
  unfold onChannel; simp
@[simp] theorem onMonitor_frame (m : Fin 2) (f : MonitorItems → MonitorItems) (s : State) :
    (onMonitor m f s).pins = s.pins ∧ (onMonitor m f s).link = s.link ∧ (onMonitor m f s).round = s.round ∧
    (onMonitor m f s).peers = s.peers ∧ (onMonitor m f s).share = s.share ∧ (onMonitor m f s).ready = s.ready ∧
    (onMonitor m f s).engine = s.engine ∧ (onMonitor m f s).capture = s.capture ∧ (onMonitor m f s).outputs = s.outputs ∧
    (onMonitor m f s).roles = s.roles ∧ (onMonitor m f s).wear = s.wear ∧ (onMonitor m f s).attention = s.attention ∧
    (onMonitor m f s).port = s.port ∧ (onMonitor m f s).orders = s.orders ∧ (onMonitor m f s).pending = s.pending := by
  unfold onMonitor; simp
@[simp] theorem onCapture_frame (n : CapName) (f : CaptureItems → CaptureItems) (s : State) :
    (onCapture n f s).pins = s.pins ∧ (onCapture n f s).link = s.link ∧ (onCapture n f s).round = s.round ∧
    (onCapture n f s).peers = s.peers ∧ (onCapture n f s).share = s.share ∧ (onCapture n f s).ready = s.ready ∧
    (onCapture n f s).engine = s.engine ∧ (onCapture n f s).wheel = s.wheel ∧ (onCapture n f s).outputs = s.outputs ∧
    (onCapture n f s).roles = s.roles ∧ (onCapture n f s).wear = s.wear ∧ (onCapture n f s).attention = s.attention ∧
    (onCapture n f s).port = s.port ∧ (onCapture n f s).orders = s.orders ∧ (onCapture n f s).pending = s.pending := by
  unfold onCapture; (repeat' split) <;> simp
@[simp] theorem loadMeasurement_frame (place : Nat) (index : Byte) (v : BitVec 32) (s : State) :
    (loadMeasurement place index v s).2.pins = s.pins ∧ (loadMeasurement place index v s).2.round = s.round ∧
    (loadMeasurement place index v s).2.peers = s.peers ∧ (loadMeasurement place index v s).2.share = s.share ∧
    (loadMeasurement place index v s).2.ready = s.ready ∧ (loadMeasurement place index v s).2.engine = s.engine ∧
    (loadMeasurement place index v s).2.outputs = s.outputs ∧ (loadMeasurement place index v s).2.roles = s.roles ∧
    (loadMeasurement place index v s).2.wear = s.wear ∧ (loadMeasurement place index v s).2.attention = s.attention ∧
    (loadMeasurement place index v s).2.port = s.port ∧ (loadMeasurement place index v s).2.orders = s.orders ∧
    (loadMeasurement place index v s).2.pending = s.pending := by
  unfold loadMeasurement; (repeat' split) <;> simp
@[simp] theorem onOutputItems_frame (n : OutName) (f : OutputItems → OutputItems) (s : State) :
    (onOutputItems n f s).pins = s.pins ∧ (onOutputItems n f s).link = s.link ∧ (onOutputItems n f s).round = s.round ∧
    (onOutputItems n f s).peers = s.peers ∧ (onOutputItems n f s).share = s.share ∧ (onOutputItems n f s).ready = s.ready ∧
    (onOutputItems n f s).engine = s.engine ∧ (onOutputItems n f s).wheel = s.wheel ∧
    (onOutputItems n f s).capture = s.capture ∧ (onOutputItems n f s).outputs = s.outputs ∧
    (onOutputItems n f s).roles = s.roles ∧ (onOutputItems n f s).wear = s.wear ∧
    (onOutputItems n f s).attention = s.attention ∧ (onOutputItems n f s).port = s.port ∧
    (onOutputItems n f s).orders = s.orders ∧ (onOutputItems n f s).pending = s.pending := by
  unfold onOutputItems; (repeat' split) <;> simp
@[simp] theorem loadMask_frame (n : OutName) (mask : Nat) (s : State) :
    (loadMask n mask s).pins = s.pins ∧ (loadMask n mask s).link = s.link ∧ (loadMask n mask s).round = s.round ∧
    (loadMask n mask s).peers = s.peers ∧ (loadMask n mask s).share = s.share ∧ (loadMask n mask s).wheel = s.wheel ∧
    (loadMask n mask s).capture = s.capture ∧ (loadMask n mask s).port = s.port ∧ (loadMask n mask s).orders = s.orders ∧
    (loadMask n mask s).pending = s.pending := by
  unfold loadMask; simp
@[simp] theorem onMap_frame (f : Items → Items) (s : State) :
    (onMap f s).pins = s.pins ∧ (onMap f s).link = s.link ∧ (onMap f s).round = s.round ∧ (onMap f s).peers = s.peers ∧
    (onMap f s).share = s.share ∧ (onMap f s).ready = s.ready ∧ (onMap f s).engine = s.engine ∧ (onMap f s).wheel = s.wheel ∧
    (onMap f s).capture = s.capture ∧ (onMap f s).roles = s.roles ∧ (onMap f s).wear = s.wear ∧
    (onMap f s).attention = s.attention ∧ (onMap f s).port = s.port ∧ (onMap f s).orders = s.orders ∧
    (onMap f s).pending = s.pending := by
  unfold onMap; simp
@[simp] theorem onLine_frame (l : Fin 4) (f : LineItems → LineItems) (s : State) :
    (onLine l f s).pins = s.pins ∧ (onLine l f s).link = s.link ∧ (onLine l f s).round = s.round ∧
    (onLine l f s).peers = s.peers ∧ (onLine l f s).share = s.share ∧ (onLine l f s).ready = s.ready ∧
    (onLine l f s).engine = s.engine ∧ (onLine l f s).wheel = s.wheel ∧ (onLine l f s).capture = s.capture ∧
    (onLine l f s).outputs = s.outputs ∧ (onLine l f s).roles = s.roles ∧ (onLine l f s).wear = s.wear ∧
    (onLine l f s).attention = s.attention ∧ (onLine l f s).port = s.port ∧ (onLine l f s).orders = s.orders ∧
    (onLine l f s).pending = s.pending := by
  unfold onLine; simp
@[simp] theorem loadLevel_frame (l : Fin 4) (high : Bool) (s : State) :
    (loadLevel l high s).pins = s.pins ∧ (loadLevel l high s).round = s.round ∧ (loadLevel l high s).peers = s.peers ∧
    (loadLevel l high s).wheel = s.wheel ∧ (loadLevel l high s).capture = s.capture ∧ (loadLevel l high s).port = s.port ∧
    (loadLevel l high s).pending = s.pending := by
  unfold loadLevel; simp
@[simp] theorem loadSafeState_frame (l : Fin 4) (on : Bool) (s : State) :
    (loadSafeState l on s).pins = s.pins ∧ (loadSafeState l on s).link = s.link ∧ (loadSafeState l on s).round = s.round ∧
    (loadSafeState l on s).peers = s.peers ∧ (loadSafeState l on s).share = s.share ∧ (loadSafeState l on s).ready = s.ready ∧
    (loadSafeState l on s).engine = s.engine ∧ (loadSafeState l on s).wheel = s.wheel ∧
    (loadSafeState l on s).capture = s.capture ∧ (loadSafeState l on s).roles = s.roles ∧
    (loadSafeState l on s).wear = s.wear ∧ (loadSafeState l on s).attention = s.attention ∧
    (loadSafeState l on s).port = s.port ∧ (loadSafeState l on s).orders = s.orders ∧
    (loadSafeState l on s).pending = s.pending := by
  unfold loadSafeState; simp
@[simp] theorem loadOutputs_frame (place : Nat) (index : Byte) (v : BitVec 32) (s : State) :
    (loadOutputs place index v s).2.pins = s.pins ∧ (loadOutputs place index v s).2.round = s.round ∧
    (loadOutputs place index v s).2.peers = s.peers ∧ (loadOutputs place index v s).2.wheel = s.wheel ∧
    (loadOutputs place index v s).2.capture = s.capture ∧ (loadOutputs place index v s).2.port = s.port ∧
    (loadOutputs place index v s).2.pending = s.pending := by
  unfold loadOutputs; (repeat' split) <;> simp
@[simp] theorem loadDemandItem_frame (place : Nat) (v : BitVec 32) (s : State) :
    (loadDemandItem place v s).2.pins = s.pins ∧ (loadDemandItem place v s).2.round = s.round ∧
    (loadDemandItem place v s).2.peers = s.peers ∧ (loadDemandItem place v s).2.share = s.share ∧
    (loadDemandItem place v s).2.ready = s.ready ∧ (loadDemandItem place v s).2.engine = s.engine ∧
    (loadDemandItem place v s).2.wheel = s.wheel ∧ (loadDemandItem place v s).2.capture = s.capture ∧
    (loadDemandItem place v s).2.outputs = s.outputs ∧ (loadDemandItem place v s).2.roles = s.roles ∧
    (loadDemandItem place v s).2.wear = s.wear ∧ (loadDemandItem place v s).2.attention = s.attention ∧
    (loadDemandItem place v s).2.port = s.port ∧ (loadDemandItem place v s).2.orders = s.orders ∧
    (loadDemandItem place v s).2.pending = s.pending := by
  unfold loadDemandItem; (repeat' split) <;> simp
@[simp] theorem loadPackItem_frame (place : Nat) (v : BitVec 32) (s : State) :
    (loadPackItem place v s).2.pins = s.pins ∧ (loadPackItem place v s).2.round = s.round ∧
    (loadPackItem place v s).2.peers = s.peers ∧ (loadPackItem place v s).2.share = s.share ∧
    (loadPackItem place v s).2.engine = s.engine ∧ (loadPackItem place v s).2.wheel = s.wheel ∧
    (loadPackItem place v s).2.capture = s.capture ∧ (loadPackItem place v s).2.port = s.port ∧
    (loadPackItem place v s).2.orders = s.orders ∧ (loadPackItem place v s).2.pending = s.pending := by
  unfold loadPackItem; (repeat' split) <;> simp
@[simp] theorem loadTractionItem_frame (place : Nat) (v : BitVec 32) (s : State) :
    (loadTractionItem place v s).2.pins = s.pins ∧ (loadTractionItem place v s).2.round = s.round ∧
    (loadTractionItem place v s).2.peers = s.peers ∧ (loadTractionItem place v s).2.share = s.share ∧
    (loadTractionItem place v s).2.ready = s.ready ∧ (loadTractionItem place v s).2.engine = s.engine ∧
    (loadTractionItem place v s).2.wheel = s.wheel ∧ (loadTractionItem place v s).2.capture = s.capture ∧
    (loadTractionItem place v s).2.outputs = s.outputs ∧ (loadTractionItem place v s).2.roles = s.roles ∧
    (loadTractionItem place v s).2.wear = s.wear ∧ (loadTractionItem place v s).2.attention = s.attention ∧
    (loadTractionItem place v s).2.port = s.port ∧ (loadTractionItem place v s).2.orders = s.orders ∧
    (loadTractionItem place v s).2.pending = s.pending := by
  unfold loadTractionItem; (repeat' split) <;> simp
@[simp] theorem loadAmbient_frame (n : Int) (s : State) :
    (loadAmbient n s).pins = s.pins ∧ (loadAmbient n s).link = s.link ∧ (loadAmbient n s).round = s.round ∧
    (loadAmbient n s).peers = s.peers ∧ (loadAmbient n s).share = s.share ∧ (loadAmbient n s).engine = s.engine ∧
    (loadAmbient n s).wheel = s.wheel ∧ (loadAmbient n s).capture = s.capture ∧ (loadAmbient n s).wear = s.wear ∧
    (loadAmbient n s).attention = s.attention ∧ (loadAmbient n s).port = s.port ∧ (loadAmbient n s).orders = s.orders ∧
    (loadAmbient n s).pending = s.pending := by
  unfold loadAmbient; simp
@[simp] theorem loadFrictionItem_frame (place : Nat) (v : BitVec 32) (s : State) :
    (loadFrictionItem place v s).2.pins = s.pins ∧ (loadFrictionItem place v s).2.round = s.round ∧
    (loadFrictionItem place v s).2.peers = s.peers ∧ (loadFrictionItem place v s).2.share = s.share ∧
    (loadFrictionItem place v s).2.engine = s.engine ∧ (loadFrictionItem place v s).2.wheel = s.wheel ∧
    (loadFrictionItem place v s).2.capture = s.capture ∧ (loadFrictionItem place v s).2.wear = s.wear ∧
    (loadFrictionItem place v s).2.attention = s.attention ∧ (loadFrictionItem place v s).2.port = s.port ∧
    (loadFrictionItem place v s).2.orders = s.orders ∧ (loadFrictionItem place v s).2.pending = s.pending := by
  unfold loadFrictionItem; (repeat' split) <;> simp
@[simp] theorem loadRole_frame (place : Nat) (v : BitVec 32) (s : State) :
    (loadRole place v s).2.pins = s.pins ∧ (loadRole place v s).2.round = s.round ∧ (loadRole place v s).2.peers = s.peers ∧
    (loadRole place v s).2.share = s.share ∧ (loadRole place v s).2.engine = s.engine ∧
    (loadRole place v s).2.wheel = s.wheel ∧ (loadRole place v s).2.capture = s.capture ∧
    (loadRole place v s).2.port = s.port ∧ (loadRole place v s).2.orders = s.orders ∧
    (loadRole place v s).2.pending = s.pending := by
  unfold loadRole; (repeat' split) <;> simp
@[simp] theorem loadKind_frame (i : Fin 12) (v : BitVec 32) (s : State) :
    (loadKind i v s).2.pins = s.pins ∧ (loadKind i v s).2.items = s.items ∧ (loadKind i v s).2.link = s.link ∧
    (loadKind i v s).2.round = s.round ∧ (loadKind i v s).2.peers = s.peers ∧ (loadKind i v s).2.share = s.share ∧
    (loadKind i v s).2.ready = s.ready ∧ (loadKind i v s).2.engine = s.engine ∧ (loadKind i v s).2.wheel = s.wheel ∧
    (loadKind i v s).2.capture = s.capture ∧ (loadKind i v s).2.outputs = s.outputs ∧ (loadKind i v s).2.roles = s.roles ∧
    (loadKind i v s).2.attention = s.attention ∧ (loadKind i v s).2.port = s.port ∧ (loadKind i v s).2.orders = s.orders ∧
    (loadKind i v s).2.pending = s.pending := by
  unfold loadKind; (repeat' split) <;> simp
@[simp] theorem loadSlot_frame (place : Nat) (index : Byte) (v : BitVec 32) (s : State) :
    (loadSlot place index v s).2.pins = s.pins ∧ (loadSlot place index v s).2.items = s.items ∧
    (loadSlot place index v s).2.round = s.round ∧ (loadSlot place index v s).2.peers = s.peers ∧
    (loadSlot place index v s).2.share = s.share ∧ (loadSlot place index v s).2.ready = s.ready ∧
    (loadSlot place index v s).2.engine = s.engine ∧ (loadSlot place index v s).2.wheel = s.wheel ∧
    (loadSlot place index v s).2.capture = s.capture ∧ (loadSlot place index v s).2.outputs = s.outputs ∧
    (loadSlot place index v s).2.roles = s.roles ∧ (loadSlot place index v s).2.attention = s.attention ∧
    (loadSlot place index v s).2.port = s.port ∧ (loadSlot place index v s).2.orders = s.orders ∧
    (loadSlot place index v s).2.pending = s.pending := by
  unfold loadSlot; split
  · simp
  · refine withIndex_all
      (fun t => t.pins = s.pins ∧ t.items = s.items ∧ t.round = s.round ∧ t.peers = s.peers ∧ t.share = s.share ∧
        t.ready = s.ready ∧ t.engine = s.engine ∧ t.wheel = s.wheel ∧ t.capture = s.capture ∧ t.outputs = s.outputs ∧
        t.roles = s.roles ∧ t.attention = s.attention ∧ t.port = s.port ∧ t.orders = s.orders ∧ t.pending = s.pending)
      index s _ (by simp) fun i => ?_
    (repeat' split) <;> first | simp | with_reducible exact ⟨rfl, rfl, rfl, rfl, rfl, rfl, rfl, rfl, rfl, rfl, rfl, rfl, rfl, rfl, rfl⟩
@[simp] theorem loadAttention_frame (place : Nat) (v : BitVec 32) (s : State) :
    (loadAttention place v s).2.pins = s.pins ∧ (loadAttention place v s).2.round = s.round ∧
    (loadAttention place v s).2.peers = s.peers ∧ (loadAttention place v s).2.share = s.share ∧
    (loadAttention place v s).2.ready = s.ready ∧ (loadAttention place v s).2.engine = s.engine ∧
    (loadAttention place v s).2.wheel = s.wheel ∧ (loadAttention place v s).2.capture = s.capture ∧
    (loadAttention place v s).2.outputs = s.outputs ∧ (loadAttention place v s).2.roles = s.roles ∧
    (loadAttention place v s).2.wear = s.wear ∧ (loadAttention place v s).2.attention = s.attention ∧
    (loadAttention place v s).2.port = s.port ∧ (loadAttention place v s).2.orders = s.orders ∧
    (loadAttention place v s).2.pending = s.pending := by
  unfold loadAttention; (repeat' split) <;> simp
@[simp] theorem doLoadItem_frame (item : BitVec 16) (index : Byte) (v : BitVec 32) (s : State) :
    (doLoadItem item index v s).2.pins = s.pins ∧ (doLoadItem item index v s).2.round = s.round ∧
    (doLoadItem item index v s).2.peers = s.peers ∧ (doLoadItem item index v s).2.port = s.port ∧
    (doLoadItem item index v s).2.pending = s.pending := by
  unfold doLoadItem; (repeat' split) <;> simp
@[simp] theorem doLoadStep_frame (index kind : Byte) (operands : BitVec 72) (s : State) :
    (doLoadStep index kind operands s).2.pins = s.pins ∧ (doLoadStep index kind operands s).2.items = s.items ∧
    (doLoadStep index kind operands s).2.link = s.link ∧ (doLoadStep index kind operands s).2.round = s.round ∧
    (doLoadStep index kind operands s).2.peers = s.peers ∧ (doLoadStep index kind operands s).2.share = s.share ∧
    (doLoadStep index kind operands s).2.ready = s.ready ∧ (doLoadStep index kind operands s).2.wheel = s.wheel ∧
    (doLoadStep index kind operands s).2.capture = s.capture ∧ (doLoadStep index kind operands s).2.outputs = s.outputs ∧
    (doLoadStep index kind operands s).2.roles = s.roles ∧ (doLoadStep index kind operands s).2.wear = s.wear ∧
    (doLoadStep index kind operands s).2.attention = s.attention ∧ (doLoadStep index kind operands s).2.port = s.port ∧
    (doLoadStep index kind operands s).2.orders = s.orders ∧ (doLoadStep index kind operands s).2.pending = s.pending := by
  unfold doLoadStep; simp

/-! ## Reset, LOCK, RESTART and the requests -/

@[simp] theorem resetTo_frame (straps : Straps) (lines inputs : BitVec 4) (s : State) :
    (resetTo straps lines inputs s).orders = s.orders ∧ (resetTo straps lines inputs s).pending = s.pending := by
  unfold resetTo; simp
@[simp] theorem lockLink_frame (s : State) :
    (lockLink s).pins = s.pins ∧ (lockLink s).items = s.items ∧ (lockLink s).round = s.round ∧ (lockLink s).peers = s.peers ∧
    (lockLink s).share = s.share ∧ (lockLink s).ready = s.ready ∧ (lockLink s).engine = s.engine ∧
    (lockLink s).wheel = s.wheel ∧ (lockLink s).capture = s.capture ∧ (lockLink s).outputs = s.outputs ∧
    (lockLink s).roles = s.roles ∧ (lockLink s).wear = s.wear ∧ (lockLink s).attention = s.attention ∧
    (lockLink s).port = s.port ∧ (lockLink s).orders = s.orders ∧ (lockLink s).pending = s.pending := by
  unfold lockLink; simp
@[simp] theorem lockPeers_frame (s : State) :
    (lockPeers s).pins = s.pins ∧ (lockPeers s).items = s.items ∧ (lockPeers s).link = s.link ∧ (lockPeers s).round = s.round ∧
    (lockPeers s).share = s.share ∧ (lockPeers s).ready = s.ready ∧ (lockPeers s).engine = s.engine ∧
    (lockPeers s).wheel = s.wheel ∧ (lockPeers s).capture = s.capture ∧ (lockPeers s).outputs = s.outputs ∧
    (lockPeers s).roles = s.roles ∧ (lockPeers s).wear = s.wear ∧ (lockPeers s).port = s.port ∧
    (lockPeers s).orders = s.orders ∧ (lockPeers s).pending = s.pending := by
  unfold lockPeers; simp
@[simp] theorem lockWear_frame (s : State) :
    (lockWear s).pins = s.pins ∧ (lockWear s).items = s.items ∧ (lockWear s).round = s.round ∧ (lockWear s).peers = s.peers ∧
    (lockWear s).share = s.share ∧ (lockWear s).engine = s.engine ∧ (lockWear s).wheel = s.wheel ∧
    (lockWear s).capture = s.capture ∧ (lockWear s).port = s.port ∧ (lockWear s).orders = s.orders ∧
    (lockWear s).pending = s.pending := by
  unfold lockWear; simp
@[simp] theorem lockLinkAndWear_frame (s : State) :
    (lockLinkAndWear s).pins = s.pins ∧ (lockLinkAndWear s).items = s.items ∧ (lockLinkAndWear s).round = s.round ∧
    (lockLinkAndWear s).peers = s.peers ∧ (lockLinkAndWear s).share = s.share ∧ (lockLinkAndWear s).engine = s.engine ∧
    (lockLinkAndWear s).wheel = s.wheel ∧ (lockLinkAndWear s).capture = s.capture ∧ (lockLinkAndWear s).port = s.port ∧
    (lockLinkAndWear s).pending = s.pending := by
  unfold lockLinkAndWear; dsimp only; (repeat' split) <;> simp [takeOrder]
@[simp] theorem applyClash_frame (s : State) :
    (applyClash s).pins = s.pins ∧ (applyClash s).items = s.items ∧ (applyClash s).round = s.round ∧
    (applyClash s).peers = s.peers ∧ (applyClash s).share = s.share ∧ (applyClash s).wheel = s.wheel ∧
    (applyClash s).capture = s.capture ∧ (applyClash s).port = s.port ∧ (applyClash s).orders = s.orders ∧
    (applyClash s).pending = s.pending := by
  unfold applyClash; simp
@[simp] theorem applyLatch_frame (s : State) :
    (applyLatch s).pins = s.pins ∧ (applyLatch s).items = s.items ∧ (applyLatch s).link = s.link ∧
    (applyLatch s).round = s.round ∧ (applyLatch s).peers = s.peers ∧ (applyLatch s).share = s.share ∧
    (applyLatch s).wheel = s.wheel ∧ (applyLatch s).capture = s.capture ∧ (applyLatch s).port = s.port ∧
    (applyLatch s).orders = s.orders ∧ (applyLatch s).pending = s.pending := by
  unfold applyLatch; simp
@[simp] theorem acceptLock_frame (s : State) :
    (acceptLock s).pins = s.pins ∧ (acceptLock s).items = s.items ∧ (acceptLock s).round = s.round ∧
    (acceptLock s).share = s.share ∧ (acceptLock s).wheel = s.wheel ∧ (acceptLock s).capture = s.capture ∧
    (acceptLock s).port = s.port ∧ (acceptLock s).pending = s.pending := by
  unfold acceptLock; simp
@[simp] theorem restartAttention_frame (s : State) :
    (restartAttention s).pins = s.pins ∧ (restartAttention s).items = s.items ∧ (restartAttention s).link = s.link ∧
    (restartAttention s).round = s.round ∧ (restartAttention s).peers = s.peers ∧ (restartAttention s).share = s.share ∧
    (restartAttention s).ready = s.ready ∧ (restartAttention s).engine = s.engine ∧ (restartAttention s).wheel = s.wheel ∧
    (restartAttention s).capture = s.capture ∧ (restartAttention s).outputs = s.outputs ∧
    (restartAttention s).roles = s.roles ∧ (restartAttention s).wear = s.wear ∧ (restartAttention s).port = s.port ∧
    (restartAttention s).orders = s.orders ∧ (restartAttention s).pending = s.pending := by
  unfold restartAttention; simp
@[simp] theorem restartLink_frame (s : State) :
    (restartLink s).pins = s.pins ∧ (restartLink s).items = s.items ∧ (restartLink s).round = s.round ∧
    (restartLink s).peers = s.peers ∧ (restartLink s).share = s.share ∧ (restartLink s).ready = s.ready ∧
    (restartLink s).engine = s.engine ∧ (restartLink s).wheel = s.wheel ∧ (restartLink s).capture = s.capture ∧
    (restartLink s).outputs = s.outputs ∧ (restartLink s).roles = s.roles ∧ (restartLink s).wear = s.wear ∧
    (restartLink s).attention = s.attention ∧ (restartLink s).port = s.port ∧ (restartLink s).orders = s.orders ∧
    (restartLink s).pending = s.pending := by
  unfold restartLink; simp
@[simp] theorem restartPeers_frame (s : State) :
    (restartPeers s).pins = s.pins ∧ (restartPeers s).items = s.items ∧ (restartPeers s).link = s.link ∧
    (restartPeers s).round = s.round ∧ (restartPeers s).share = s.share ∧ (restartPeers s).ready = s.ready ∧
    (restartPeers s).engine = s.engine ∧ (restartPeers s).wheel = s.wheel ∧ (restartPeers s).capture = s.capture ∧
    (restartPeers s).outputs = s.outputs ∧ (restartPeers s).roles = s.roles ∧ (restartPeers s).wear = s.wear ∧
    (restartPeers s).attention = s.attention ∧ (restartPeers s).port = s.port ∧ (restartPeers s).orders = s.orders ∧
    (restartPeers s).pending = s.pending := by
  unfold restartPeers; simp
@[simp] theorem restartShare_frame (s : State) :
    (restartShare s).pins = s.pins ∧ (restartShare s).items = s.items ∧ (restartShare s).link = s.link ∧
    (restartShare s).round = s.round ∧ (restartShare s).peers = s.peers ∧ (restartShare s).ready = s.ready ∧
    (restartShare s).engine = s.engine ∧ (restartShare s).wheel = s.wheel ∧ (restartShare s).capture = s.capture ∧
    (restartShare s).outputs = s.outputs ∧ (restartShare s).roles = s.roles ∧ (restartShare s).wear = s.wear ∧
    (restartShare s).attention = s.attention ∧ (restartShare s).port = s.port ∧ (restartShare s).orders = s.orders ∧
    (restartShare s).pending = s.pending := by
  unfold restartShare; simp
@[simp] theorem restartEngine_frame (s : State) :
    (restartEngine s).pins = s.pins ∧ (restartEngine s).items = s.items ∧ (restartEngine s).link = s.link ∧
    (restartEngine s).round = s.round ∧ (restartEngine s).peers = s.peers ∧ (restartEngine s).share = s.share ∧
    (restartEngine s).ready = s.ready ∧ (restartEngine s).wheel = s.wheel ∧ (restartEngine s).capture = s.capture ∧
    (restartEngine s).outputs = s.outputs ∧ (restartEngine s).roles = s.roles ∧ (restartEngine s).wear = s.wear ∧
    (restartEngine s).port = s.port ∧ (restartEngine s).orders = s.orders ∧ (restartEngine s).pending = s.pending := by
  unfold restartEngine; simp
@[simp] theorem restartCapture_frame (s : State) :
    (restartCapture s).pins = s.pins ∧ (restartCapture s).items = s.items ∧ (restartCapture s).link = s.link ∧
    (restartCapture s).round = s.round ∧ (restartCapture s).peers = s.peers ∧ (restartCapture s).share = s.share ∧
    (restartCapture s).ready = s.ready ∧ (restartCapture s).engine = s.engine ∧ (restartCapture s).wheel = s.wheel ∧
    (restartCapture s).outputs = s.outputs ∧ (restartCapture s).roles = s.roles ∧ (restartCapture s).wear = s.wear ∧
    (restartCapture s).attention = s.attention ∧ (restartCapture s).port = s.port ∧ (restartCapture s).orders = s.orders ∧
    (restartCapture s).pending = s.pending := by
  unfold restartCapture; simp
@[simp] theorem restartOutputs_frame (s : State) :
    (restartOutputs s).pins = s.pins ∧ (restartOutputs s).items = s.items ∧ (restartOutputs s).link = s.link ∧
    (restartOutputs s).round = s.round ∧ (restartOutputs s).peers = s.peers ∧ (restartOutputs s).share = s.share ∧
    (restartOutputs s).ready = s.ready ∧ (restartOutputs s).engine = s.engine ∧ (restartOutputs s).wheel = s.wheel ∧
    (restartOutputs s).capture = s.capture ∧ (restartOutputs s).roles = s.roles ∧ (restartOutputs s).wear = s.wear ∧
    (restartOutputs s).attention = s.attention ∧ (restartOutputs s).port = s.port ∧ (restartOutputs s).orders = s.orders ∧
    (restartOutputs s).pending = s.pending := by
  unfold restartOutputs; simp
@[simp] theorem restartRoles_frame (s : State) :
    (restartRoles s).pins = s.pins ∧ (restartRoles s).items = s.items ∧ (restartRoles s).link = s.link ∧
    (restartRoles s).round = s.round ∧ (restartRoles s).peers = s.peers ∧ (restartRoles s).share = s.share ∧
    (restartRoles s).ready = s.ready ∧ (restartRoles s).engine = s.engine ∧ (restartRoles s).wheel = s.wheel ∧
    (restartRoles s).capture = s.capture ∧ (restartRoles s).outputs = s.outputs ∧ (restartRoles s).wear = s.wear ∧
    (restartRoles s).attention = s.attention ∧ (restartRoles s).port = s.port ∧ (restartRoles s).orders = s.orders ∧
    (restartRoles s).pending = s.pending := by
  unfold restartRoles; simp
@[simp] theorem restartReadiness_frame (s : State) :
    (restartReadiness s).pins = s.pins ∧ (restartReadiness s).items = s.items ∧ (restartReadiness s).round = s.round ∧
    (restartReadiness s).peers = s.peers ∧ (restartReadiness s).share = s.share ∧ (restartReadiness s).wheel = s.wheel ∧
    (restartReadiness s).capture = s.capture ∧ (restartReadiness s).port = s.port ∧ (restartReadiness s).orders = s.orders ∧
    (restartReadiness s).pending = s.pending := by
  unfold restartReadiness; simp
@[simp] theorem restartWear_frame (s : State) :
    (restartWear s).pins = s.pins ∧ (restartWear s).items = s.items ∧ (restartWear s).link = s.link ∧
    (restartWear s).round = s.round ∧ (restartWear s).peers = s.peers ∧ (restartWear s).share = s.share ∧
    (restartWear s).engine = s.engine ∧ (restartWear s).wheel = s.wheel ∧ (restartWear s).capture = s.capture ∧
    (restartWear s).port = s.port ∧ (restartWear s).orders = s.orders ∧ (restartWear s).pending = s.pending := by
  unfold restartWear; simp
@[simp] theorem restartTriggers_frame (s : State) :
    (restartTriggers s).pins = s.pins ∧ (restartTriggers s).items = s.items ∧ (restartTriggers s).link = s.link ∧
    (restartTriggers s).round = s.round ∧ (restartTriggers s).peers = s.peers ∧ (restartTriggers s).share = s.share ∧
    (restartTriggers s).wheel = s.wheel ∧ (restartTriggers s).capture = s.capture ∧ (restartTriggers s).port = s.port ∧
    (restartTriggers s).pending = s.pending := by
  unfold restartTriggers; simp
@[simp] theorem restartNode_frame (s : State) :
    (restartNode s).pins = s.pins ∧ (restartNode s).items = s.items ∧ (restartNode s).round = s.round ∧
    (restartNode s).wheel = s.wheel ∧ (restartNode s).port = s.port ∧ (restartNode s).pending = s.pending := by
  unfold restartNode; simp
@[simp] theorem doClearFault_frame (s : State) :
    (doClearFault s).pins = s.pins ∧ (doClearFault s).items = s.items ∧ (doClearFault s).round = s.round ∧
    (doClearFault s).peers = s.peers ∧ (doClearFault s).share = s.share ∧ (doClearFault s).wheel = s.wheel ∧
    (doClearFault s).capture = s.capture ∧ (doClearFault s).port = s.port ∧ (doClearFault s).orders = s.orders ∧
    (doClearFault s).pending = s.pending := by
  unfold doClearFault; simp
@[simp] theorem doShutdown_frame (on : Bool) (s : State) :
    (doShutdown on s).pins = s.pins ∧ (doShutdown on s).items = s.items ∧ (doShutdown on s).link = s.link ∧
    (doShutdown on s).round = s.round ∧ (doShutdown on s).peers = s.peers ∧ (doShutdown on s).share = s.share ∧
    (doShutdown on s).wheel = s.wheel ∧ (doShutdown on s).capture = s.capture ∧ (doShutdown on s).port = s.port ∧
    (doShutdown on s).pending = s.pending := by
  unfold doShutdown; simp
@[simp] theorem doRelease_frame (n : OutName) (s : State) :
    (doRelease n s).pins = s.pins ∧ (doRelease n s).items = s.items ∧ (doRelease n s).link = s.link ∧
    (doRelease n s).round = s.round ∧ (doRelease n s).peers = s.peers ∧ (doRelease n s).share = s.share ∧
    (doRelease n s).ready = s.ready ∧ (doRelease n s).engine = s.engine ∧ (doRelease n s).wheel = s.wheel ∧
    (doRelease n s).capture = s.capture ∧ (doRelease n s).roles = s.roles ∧ (doRelease n s).wear = s.wear ∧
    (doRelease n s).attention = s.attention ∧ (doRelease n s).port = s.port ∧ (doRelease n s).orders = s.orders ∧
    (doRelease n s).pending = s.pending := by
  unfold doRelease; simp
@[simp] theorem doZone_frame (on : Bool) (s : State) :
    (doZone on s).pins = s.pins ∧ (doZone on s).items = s.items ∧ (doZone on s).link = s.link ∧ (doZone on s).round = s.round ∧
    (doZone on s).peers = s.peers ∧ (doZone on s).share = s.share ∧ (doZone on s).ready = s.ready ∧
    (doZone on s).engine = s.engine ∧ (doZone on s).wheel = s.wheel ∧ (doZone on s).capture = s.capture ∧
    (doZone on s).outputs = s.outputs ∧ (doZone on s).wear = s.wear ∧ (doZone on s).attention = s.attention ∧
    (doZone on s).port = s.port ∧ (doZone on s).orders = s.orders ∧ (doZone on s).pending = s.pending := by
  unfold doZone; simp
@[simp] theorem doService_frame (slot : Byte) (s : State) :
    (doService slot s).pins = s.pins ∧ (doService slot s).items = s.items ∧ (doService slot s).round = s.round ∧
    (doService slot s).peers = s.peers ∧ (doService slot s).share = s.share ∧ (doService slot s).engine = s.engine ∧
    (doService slot s).wheel = s.wheel ∧ (doService slot s).capture = s.capture ∧ (doService slot s).port = s.port ∧
    (doService slot s).orders = s.orders ∧ (doService slot s).pending = s.pending := by
  unfold doService; (repeat' split) <;> simp
@[simp] theorem setPendingTo_frame (p : BitVec 6) (s : State) :
    (setPendingTo p s).pins = s.pins ∧ (setPendingTo p s).items = s.items ∧ (setPendingTo p s).link = s.link ∧
    (setPendingTo p s).round = s.round ∧ (setPendingTo p s).peers = s.peers ∧ (setPendingTo p s).share = s.share ∧
    (setPendingTo p s).ready = s.ready ∧ (setPendingTo p s).engine = s.engine ∧ (setPendingTo p s).wheel = s.wheel ∧
    (setPendingTo p s).capture = s.capture ∧ (setPendingTo p s).outputs = s.outputs ∧ (setPendingTo p s).roles = s.roles ∧
    (setPendingTo p s).wear = s.wear ∧ (setPendingTo p s).port = s.port ∧ (setPendingTo p s).orders = s.orders ∧
    (setPendingTo p s).pending = s.pending := by
  unfold setPendingTo; simp
@[simp] theorem setEnableTo_frame (p : BitVec 6) (s : State) :
    (setEnableTo p s).pins = s.pins ∧ (setEnableTo p s).items = s.items ∧ (setEnableTo p s).link = s.link ∧
    (setEnableTo p s).round = s.round ∧ (setEnableTo p s).peers = s.peers ∧ (setEnableTo p s).share = s.share ∧
    (setEnableTo p s).ready = s.ready ∧ (setEnableTo p s).engine = s.engine ∧ (setEnableTo p s).wheel = s.wheel ∧
    (setEnableTo p s).capture = s.capture ∧ (setEnableTo p s).outputs = s.outputs ∧ (setEnableTo p s).roles = s.roles ∧
    (setEnableTo p s).wear = s.wear ∧ (setEnableTo p s).port = s.port ∧ (setEnableTo p s).orders = s.orders ∧
    (setEnableTo p s).pending = s.pending := by
  unfold setEnableTo; simp
@[simp] theorem doMaster_frame (on : Bool) (s : State) :
    (doMaster on s).pins = s.pins ∧ (doMaster on s).items = s.items ∧ (doMaster on s).link = s.link ∧
    (doMaster on s).round = s.round ∧ (doMaster on s).peers = s.peers ∧ (doMaster on s).share = s.share ∧
    (doMaster on s).ready = s.ready ∧ (doMaster on s).engine = s.engine ∧ (doMaster on s).wheel = s.wheel ∧
    (doMaster on s).capture = s.capture ∧ (doMaster on s).outputs = s.outputs ∧ (doMaster on s).roles = s.roles ∧
    (doMaster on s).wear = s.wear ∧ (doMaster on s).port = s.port ∧ (doMaster on s).orders = s.orders ∧
    (doMaster on s).pending = s.pending := by
  unfold doMaster; simp

/-! ## The local port -/

@[simp] theorem finish_pins (q : Request) (e : Exchange) (s : State) (h : ∀ e t, (q.effect e t).pins = t.pins) :
    (finish q e s).pins = s.pins := by
  unfold finish; simp [h]
@[simp] theorem finish_items (q : Request) (e : Exchange) (s : State) (h : ∀ e t, (q.effect e t).items = t.items) :
    (finish q e s).items = s.items := by
  unfold finish; simp [h]
@[simp] theorem finish_link (q : Request) (e : Exchange) (s : State) (h : ∀ e t, (q.effect e t).link = t.link) :
    (finish q e s).link = s.link := by
  unfold finish; simp [h]
@[simp] theorem finish_round (q : Request) (e : Exchange) (s : State) (h : ∀ e t, (q.effect e t).round = t.round) :
    (finish q e s).round = s.round := by
  unfold finish; simp [h]
@[simp] theorem finish_peers (q : Request) (e : Exchange) (s : State) (h : ∀ e t, (q.effect e t).peers = t.peers) :
    (finish q e s).peers = s.peers := by
  unfold finish; simp [h]
@[simp] theorem finish_share (q : Request) (e : Exchange) (s : State) (h : ∀ e t, (q.effect e t).share = t.share) :
    (finish q e s).share = s.share := by
  unfold finish; simp [h]
@[simp] theorem finish_ready (q : Request) (e : Exchange) (s : State) (h : ∀ e t, (q.effect e t).ready = t.ready) :
    (finish q e s).ready = s.ready := by
  unfold finish; simp [h]
@[simp] theorem finish_engine (q : Request) (e : Exchange) (s : State) (h : ∀ e t, (q.effect e t).engine = t.engine) :
    (finish q e s).engine = s.engine := by
  unfold finish; simp [h]
@[simp] theorem finish_wheel (q : Request) (e : Exchange) (s : State) (h : ∀ e t, (q.effect e t).wheel = t.wheel) :
    (finish q e s).wheel = s.wheel := by
  unfold finish; simp [h]
@[simp] theorem finish_capture (q : Request) (e : Exchange) (s : State) (h : ∀ e t, (q.effect e t).capture = t.capture) :
    (finish q e s).capture = s.capture := by
  unfold finish; simp [h]
@[simp] theorem finish_outputs (q : Request) (e : Exchange) (s : State) (h : ∀ e t, (q.effect e t).outputs = t.outputs) :
    (finish q e s).outputs = s.outputs := by
  unfold finish; simp [h]
@[simp] theorem finish_roles (q : Request) (e : Exchange) (s : State) (h : ∀ e t, (q.effect e t).roles = t.roles) :
    (finish q e s).roles = s.roles := by
  unfold finish; simp [h]
@[simp] theorem finish_wear (q : Request) (e : Exchange) (s : State) (h : ∀ e t, (q.effect e t).wear = t.wear) :
    (finish q e s).wear = s.wear := by
  unfold finish; simp [h]
@[simp] theorem finish_attention (q : Request) (e : Exchange) (s : State) (h : ∀ e t, (q.effect e t).attention = t.attention) :
    (finish q e s).attention = s.attention := by
  unfold finish; simp [h]
@[simp] theorem finish_orders (q : Request) (e : Exchange) (s : State) (h : ∀ e t, (q.effect e t).orders = t.orders) :
    (finish q e s).orders = s.orders := by
  unfold finish; simp [h]
@[simp] theorem finish_pending (q : Request) (e : Exchange) (s : State) (h : ∀ e t, (q.effect e t).pending = t.pending) :
    (finish q e s).pending = s.pending := by
  unfold finish; simp [h]
@[simp] theorem deselect_pins (q : Request) (s : State) (h : ∀ e t, (q.effect e t).pins = t.pins) :
    (deselect q s).pins = s.pins := by
  unfold deselect; (repeat' split) <;> simp [h]
@[simp] theorem deselect_items (q : Request) (s : State) (h : ∀ e t, (q.effect e t).items = t.items) :
    (deselect q s).items = s.items := by
  unfold deselect; (repeat' split) <;> simp [h]
@[simp] theorem deselect_link (q : Request) (s : State) (h : ∀ e t, (q.effect e t).link = t.link) :
    (deselect q s).link = s.link := by
  unfold deselect; (repeat' split) <;> simp [h]
@[simp] theorem deselect_round (q : Request) (s : State) (h : ∀ e t, (q.effect e t).round = t.round) :
    (deselect q s).round = s.round := by
  unfold deselect; (repeat' split) <;> simp [h]
@[simp] theorem deselect_peers (q : Request) (s : State) (h : ∀ e t, (q.effect e t).peers = t.peers) :
    (deselect q s).peers = s.peers := by
  unfold deselect; (repeat' split) <;> simp [h]
@[simp] theorem deselect_share (q : Request) (s : State) (h : ∀ e t, (q.effect e t).share = t.share) :
    (deselect q s).share = s.share := by
  unfold deselect; (repeat' split) <;> simp [h]
@[simp] theorem deselect_ready (q : Request) (s : State) (h : ∀ e t, (q.effect e t).ready = t.ready) :
    (deselect q s).ready = s.ready := by
  unfold deselect; (repeat' split) <;> simp [h]
@[simp] theorem deselect_engine (q : Request) (s : State) (h : ∀ e t, (q.effect e t).engine = t.engine) :
    (deselect q s).engine = s.engine := by
  unfold deselect; (repeat' split) <;> simp [h]
@[simp] theorem deselect_wheel (q : Request) (s : State) (h : ∀ e t, (q.effect e t).wheel = t.wheel) :
    (deselect q s).wheel = s.wheel := by
  unfold deselect; (repeat' split) <;> simp [h]
@[simp] theorem deselect_capture (q : Request) (s : State) (h : ∀ e t, (q.effect e t).capture = t.capture) :
    (deselect q s).capture = s.capture := by
  unfold deselect; (repeat' split) <;> simp [h]
@[simp] theorem deselect_outputs (q : Request) (s : State) (h : ∀ e t, (q.effect e t).outputs = t.outputs) :
    (deselect q s).outputs = s.outputs := by
  unfold deselect; (repeat' split) <;> simp [h]
@[simp] theorem deselect_roles (q : Request) (s : State) (h : ∀ e t, (q.effect e t).roles = t.roles) :
    (deselect q s).roles = s.roles := by
  unfold deselect; (repeat' split) <;> simp [h]
@[simp] theorem deselect_wear (q : Request) (s : State) (h : ∀ e t, (q.effect e t).wear = t.wear) :
    (deselect q s).wear = s.wear := by
  unfold deselect; (repeat' split) <;> simp [h]
@[simp] theorem deselect_attention (q : Request) (s : State) (h : ∀ e t, (q.effect e t).attention = t.attention) :
    (deselect q s).attention = s.attention := by
  unfold deselect; (repeat' split) <;> simp [h]
@[simp] theorem deselect_orders (q : Request) (s : State) (h : ∀ e t, (q.effect e t).orders = t.orders) :
    (deselect q s).orders = s.orders := by
  unfold deselect; (repeat' split) <;> simp [h]
@[simp] theorem deselect_pending (q : Request) (s : State) (h : ∀ e t, (q.effect e t).pending = t.pending) :
    (deselect q s).pending = s.pending := by
  unfold deselect; (repeat' split) <;> simp [h]
/-- What an answer point given alone can do: that of its command, or nothing in a select period that a reset cut (R196). -/
theorem reachAnswer_cases (q : Request) (s : State) :
    (s.port.select ≠ .void ∧ reachAnswer q s = answerPoint q s) ∨ (s.port.select = .void ∧ reachAnswer q s = s) := by
  unfold reachAnswer; cases s.port.select <;> simp
@[simp] theorem reachAnswer_pins (q : Request) (s : State) : (reachAnswer q s).pins = s.pins := by
  unfold reachAnswer; split <;> rfl
@[simp] theorem reachAnswer_items (q : Request) (s : State) : (reachAnswer q s).items = s.items := by
  unfold reachAnswer; split <;> rfl
@[simp] theorem reachAnswer_link (q : Request) (s : State) : (reachAnswer q s).link = s.link := by
  unfold reachAnswer; split <;> rfl
@[simp] theorem reachAnswer_round (q : Request) (s : State) : (reachAnswer q s).round = s.round := by
  unfold reachAnswer; split <;> rfl
@[simp] theorem reachAnswer_peers (q : Request) (s : State) : (reachAnswer q s).peers = s.peers := by
  unfold reachAnswer; split <;> rfl
@[simp] theorem reachAnswer_share (q : Request) (s : State) : (reachAnswer q s).share = s.share := by
  unfold reachAnswer; split <;> rfl
@[simp] theorem reachAnswer_ready (q : Request) (s : State) : (reachAnswer q s).ready = s.ready := by
  unfold reachAnswer; split <;> rfl
@[simp] theorem reachAnswer_engine (q : Request) (s : State) : (reachAnswer q s).engine = s.engine := by
  unfold reachAnswer; split <;> rfl
@[simp] theorem reachAnswer_wheel (q : Request) (s : State) : (reachAnswer q s).wheel = s.wheel := by
  unfold reachAnswer; split <;> rfl
@[simp] theorem reachAnswer_capture (q : Request) (s : State) : (reachAnswer q s).capture = s.capture := by
  unfold reachAnswer; split <;> rfl
@[simp] theorem reachAnswer_outputs (q : Request) (s : State) : (reachAnswer q s).outputs = s.outputs := by
  unfold reachAnswer; split <;> rfl
@[simp] theorem reachAnswer_roles (q : Request) (s : State) : (reachAnswer q s).roles = s.roles := by
  unfold reachAnswer; split <;> rfl
@[simp] theorem reachAnswer_wear (q : Request) (s : State) : (reachAnswer q s).wear = s.wear := by
  unfold reachAnswer; split <;> rfl
@[simp] theorem reachAnswer_attention (q : Request) (s : State) : (reachAnswer q s).attention = s.attention := by
  unfold reachAnswer; split <;> rfl
@[simp] theorem reachAnswer_orders (q : Request) (s : State) : (reachAnswer q s).orders = s.orders := by
  unfold reachAnswer; split <;> rfl
@[simp] theorem reachAnswer_pending (q : Request) (s : State) : (reachAnswer q s).pending = s.pending := by
  unfold reachAnswer; split <;> rfl
@[simp] theorem runRequest_pins (m : Moment) (q : Request) (s : State) (h : ∀ e t, (q.effect e t).pins = t.pins) :
    (runRequest m q s).pins = s.pins := by
  unfold runRequest; (repeat' split) <;> simp [h]
@[simp] theorem runRequest_items (m : Moment) (q : Request) (s : State) (h : ∀ e t, (q.effect e t).items = t.items) :
    (runRequest m q s).items = s.items := by
  unfold runRequest; (repeat' split) <;> simp [h]
@[simp] theorem runRequest_link (m : Moment) (q : Request) (s : State) (h : ∀ e t, (q.effect e t).link = t.link) :
    (runRequest m q s).link = s.link := by
  unfold runRequest; (repeat' split) <;> simp [h]
@[simp] theorem runRequest_round (m : Moment) (q : Request) (s : State) (h : ∀ e t, (q.effect e t).round = t.round) :
    (runRequest m q s).round = s.round := by
  unfold runRequest; (repeat' split) <;> simp [h]
@[simp] theorem runRequest_peers (m : Moment) (q : Request) (s : State) (h : ∀ e t, (q.effect e t).peers = t.peers) :
    (runRequest m q s).peers = s.peers := by
  unfold runRequest; (repeat' split) <;> simp [h]
@[simp] theorem runRequest_share (m : Moment) (q : Request) (s : State) (h : ∀ e t, (q.effect e t).share = t.share) :
    (runRequest m q s).share = s.share := by
  unfold runRequest; (repeat' split) <;> simp [h]
@[simp] theorem runRequest_ready (m : Moment) (q : Request) (s : State) (h : ∀ e t, (q.effect e t).ready = t.ready) :
    (runRequest m q s).ready = s.ready := by
  unfold runRequest; (repeat' split) <;> simp [h]
@[simp] theorem runRequest_engine (m : Moment) (q : Request) (s : State) (h : ∀ e t, (q.effect e t).engine = t.engine) :
    (runRequest m q s).engine = s.engine := by
  unfold runRequest; (repeat' split) <;> simp [h]
@[simp] theorem runRequest_wheel (m : Moment) (q : Request) (s : State) (h : ∀ e t, (q.effect e t).wheel = t.wheel) :
    (runRequest m q s).wheel = s.wheel := by
  unfold runRequest; (repeat' split) <;> simp [h]
@[simp] theorem runRequest_capture (m : Moment) (q : Request) (s : State) (h : ∀ e t, (q.effect e t).capture = t.capture) :
    (runRequest m q s).capture = s.capture := by
  unfold runRequest; (repeat' split) <;> simp [h]
@[simp] theorem runRequest_outputs (m : Moment) (q : Request) (s : State) (h : ∀ e t, (q.effect e t).outputs = t.outputs) :
    (runRequest m q s).outputs = s.outputs := by
  unfold runRequest; (repeat' split) <;> simp [h]
@[simp] theorem runRequest_roles (m : Moment) (q : Request) (s : State) (h : ∀ e t, (q.effect e t).roles = t.roles) :
    (runRequest m q s).roles = s.roles := by
  unfold runRequest; (repeat' split) <;> simp [h]
@[simp] theorem runRequest_wear (m : Moment) (q : Request) (s : State) (h : ∀ e t, (q.effect e t).wear = t.wear) :
    (runRequest m q s).wear = s.wear := by
  unfold runRequest; (repeat' split) <;> simp [h]
@[simp] theorem runRequest_attention (m : Moment) (q : Request) (s : State) (h : ∀ e t, (q.effect e t).attention = t.attention) :
    (runRequest m q s).attention = s.attention := by
  unfold runRequest; (repeat' split) <;> simp [h]
@[simp] theorem runRequest_orders (m : Moment) (q : Request) (s : State) (h : ∀ e t, (q.effect e t).orders = t.orders) :
    (runRequest m q s).orders = s.orders := by
  unfold runRequest; (repeat' split) <;> simp [h]
@[simp] theorem runRequest_pending (m : Moment) (q : Request) (s : State) (h : ∀ e t, (q.effect e t).pending = t.pending) :
    (runRequest m q s).pending = s.pending := by
  unfold runRequest; (repeat' split) <;> simp [h]
@[simp] theorem runShort_frame (s : State) :
    (runShort s).pins = s.pins ∧ (runShort s).items = s.items ∧ (runShort s).link = s.link ∧ (runShort s).round = s.round ∧
    (runShort s).peers = s.peers ∧ (runShort s).share = s.share ∧ (runShort s).ready = s.ready ∧
    (runShort s).engine = s.engine ∧ (runShort s).wheel = s.wheel ∧ (runShort s).capture = s.capture ∧
    (runShort s).outputs = s.outputs ∧ (runShort s).roles = s.roles ∧ (runShort s).wear = s.wear ∧
    (runShort s).attention = s.attention ∧ (runShort s).orders = s.orders ∧ (runShort s).pending = s.pending := by
  unfold runShort; (repeat' split) <;> simp
@[simp] theorem emptySnapshot_frame (s : State) :
    (emptySnapshot s).pins = s.pins ∧ (emptySnapshot s).items = s.items ∧ (emptySnapshot s).link = s.link ∧
    (emptySnapshot s).round = s.round ∧ (emptySnapshot s).peers = s.peers ∧ (emptySnapshot s).share = s.share ∧
    (emptySnapshot s).ready = s.ready ∧ (emptySnapshot s).engine = s.engine ∧ (emptySnapshot s).wheel = s.wheel ∧
    (emptySnapshot s).capture = s.capture ∧ (emptySnapshot s).roles = s.roles ∧ (emptySnapshot s).wear = s.wear ∧
    (emptySnapshot s).attention = s.attention ∧ (emptySnapshot s).port = s.port ∧ (emptySnapshot s).orders = s.orders ∧
    (emptySnapshot s).pending = s.pending := by
  unfold emptySnapshot; simp
@[simp] theorem popAnswered_frame (e : Exchange) (s : State) :
    (popAnswered e s).pins = s.pins ∧ (popAnswered e s).items = s.items ∧ (popAnswered e s).link = s.link ∧
    (popAnswered e s).round = s.round ∧ (popAnswered e s).peers = s.peers ∧ (popAnswered e s).share = s.share ∧
    (popAnswered e s).ready = s.ready ∧ (popAnswered e s).engine = s.engine ∧ (popAnswered e s).wheel = s.wheel ∧
    (popAnswered e s).capture = s.capture ∧ (popAnswered e s).outputs = s.outputs ∧ (popAnswered e s).roles = s.roles ∧
    (popAnswered e s).attention = s.attention ∧ (popAnswered e s).port = s.port ∧ (popAnswered e s).orders = s.orders ∧
    (popAnswered e s).pending = s.pending := by
  unfold popAnswered; simp
/-! ## What the shared operations do -/

/-- An operation under the gate does what it does, or that and then the gate's onset (R117). -/
theorem gated_cases (f : State → State) (s : State) :
    (gated f s = f s ∧ ¬(gateHolds (f s) = true ∧ gateHolds s = false)) ∨
      (gated f s = gateOnset (f s) ∧ gateHolds (f s) = true ∧ gateHolds s = false) := by
  unfold gated
  cases h : gateHolds (f s) <;> cases h' : gateHolds s <;> simp [h]

/-- An operation under the gate leaves every block but the outputs as the operation leaves it (R117). -/
theorem gated_block {γ : Type} (g : State → γ) (hg : ∀ s, g (gateOnset s) = g s) (f : State → State) (s : State) :
    g (gated f s) = g (f s) := by
  rcases gated_cases f s with ⟨h, _⟩ | ⟨h, _⟩ <;> rw [h]
  exact hg _

/-- A limit derivation derates or restores readiness by the factor, and moves it no other way (R79, R81). -/
@[simp] theorem deriveLimits_state (s : State) : (deriveLimits s).ready.state = deratedBy (limitFactor s) s.ready.state := by
  unfold deriveLimits
  dsimp only
  split <;> simp [withLimits]

/-- The grant formed anew is the one its conditions give, and its torque command is formed from it (R168, R169). -/
theorem formGrant_traction (s : State) :
    (formGrant s).roles.traction =
      { s.roles.traction with
        applied := appliedGrant s, torque := torqueOf s.items.traction (appliedGrant s) (s.speed .c0) } := by
  simp [formGrant, formTorque, State.speed]

/-- After a change of its conditions a TRACTION node's applied grant is the one they give; only a new one forms a torque command and a duty (R168, R169). -/
theorem formGrantHere_cases (s : State) :
    (formGrantHere s = s ∧ (s.role = .traction → s.roles.traction.applied = appliedGrant s)) ∨
      (formGrantHere s = formGrant s ∧ s.role = .traction ∧ appliedGrant s ≠ s.roles.traction.applied) := by
  unfold formGrantHere
  split
  · exact .inr ⟨rfl, ‹_›⟩
  · refine .inl ⟨rfl, fun h => ?_⟩
    rename_i h'
    exact (Decidable.not_not.mp fun e => h' ⟨h, e⟩).symm

/-- A change of readiness leaves the Demand Role as it is within READY and DERATED, and zeroes its result and ramp base otherwise (R140). -/
theorem restDemand_cases (r : Readiness) (s : State) :
    (s.available = true ∧ isAvailable r = true ∧ restDemand r s = s.roles.demand) ∨
      ((s.available = false ∨ isAvailable r = false) ∧ restDemand r s = { s.roles.demand with result := 0, rampBase := 0 }) := by
  unfold restDemand
  cases s.available <;> cases isAvailable r <;> simp

/-- A change of readiness arrives in the state it names, as the factor derates or restores it (R70, R79). -/
theorem setReadiness_state (r : Readiness) (s : State) : ∃ c, (setReadiness r s).ready.state = deratedBy c r := by
  refine ⟨limitFactor
    (formGrantHere (withReadiness r s)), ?_⟩
  unfold setReadiness
  rw [gated_block (fun t : State => t.ready.state) fun _ => rfl]
  dsimp only
  split <;> simp

@[simp] theorem setReadiness_faulted (s : State) : (setReadiness .faulted s).ready.state = .faulted := by
  obtain ⟨c, h⟩ := setReadiness_state .faulted s
  rw [h]
  rfl

/-- A fault leads to FAULTED from any state (R73, R74). -/
@[simp] theorem enterFaulted_state (add : Causes → Causes) (s : State) : (enterFaulted add s).ready.state = .faulted := by
  unfold enterFaulted
  dsimp only
  split
  · assumption
  · simp

/-- A placement puts a frame in its slot while the link is ACTIVE, and drops it in the other link states (R14). -/
theorem place_cases (k : FrameKind) (p : List Byte) (s : State) :
    (s.link.state = .active ∧ place k p s = { s with link := s.link.fill k p false }) ∨
      (s.link.state ≠ .active ∧ place k p s = s) := by
  unfold place
  split
  · exact .inl ⟨‹_›, rfl⟩
  · exact .inr ⟨‹_›, rfl⟩

/-- A deselect after the answer point: refused at the answer, nothing to give, refused at the deselect, or carried out; only the last hands the state to the request's effect (R196, R197). -/
theorem finish_cases (q : Request) (e : Exchange) (s : State) :
    (isRefusal e.reply = true ∧ finish q e s = settle e.reply false s) ∨
      (isRefusal e.reply = false ∧ e.reply = .empty ∧ finish q e s = settle .empty false s) ∨
      (isRefusal e.reply = false ∧ e.reply ≠ .empty ∧ isRefusal (q.judge s) = true ∧ finish q e s = settle (q.judge s) true s) ∨
      (isRefusal e.reply = false ∧ e.reply ≠ .empty ∧ isRefusal (q.judge s) = false ∧
        finish q e s = q.effect e (settle (q.judge s) false s)) := by
  unfold finish
  cases h1 : isRefusal e.reply <;> by_cases h2 : e.reply = .empty <;> cases h3 : isRefusal (q.judge s) <;> simp [h2]

/-- A value brought into a range that is not empty lies in it (R197). -/
theorem bring_mem (lo hi x : Int) (h : lo ≤ hi) : lo ≤ bring lo hi x ∧ bring lo hi x ≤ hi := by
  unfold bring
  omega

/-- A value inside the range is stored as it is (R197). -/
theorem bring_eq (lo hi x : Int) (h : lo ≤ x) (h' : x ≤ hi) : bring lo hi x = x := by
  unfold bring
  omega

/-- A duty brought into output A's map lies in it (R116). -/
theorem intoMap_mem (s : State) (d : Int) (h : s.items.dutyLo ≤ s.items.dutyHi) :
    s.items.dutyLo ≤ intoMap s d ∧ intoMap s d ≤ s.items.dutyHi := by
  have := bring_mem s.items.dutyLo s.items.dutyHi d (by exact_mod_cast h)
  unfold intoMap
  omega

end Sys2Proof.Machine
end

