-- ==== Sys2Proof/Tests/Slice0.lean ====
section
/-! SUPPORT. Tests: the well-formedness checks, the manual's worked figures, and one witness for the hypotheses of each statement of Certificates/Slice0/Obligations.lean. -/

namespace Sys2Proof.Tests

open Sys2Proof Sys2Proof.Machine

-- One theorem after the other: as many at once as the file holds ask for more thread stacks than the memory limit allows.
set_option Elab.async false

/-! ## Small states and frames -/

/-- Station 3 right after reset, with a role code and every shutdown line high. -/
def fresh (role : BitVec 3) : State :=
  State.powerOn { station := 3, role } 0xF 0 (Vector.ofFn fun _ => 0)

/-- Station 3 in a readiness state, its link ACTIVE and the line idle. -/
def unit (role : BitVec 3) (r : Readiness) : State :=
  let s := fresh role
  { s with ready := { s.ready with state := r }, link := { s.link with state := .active, line := .idle } }

/-- A unit whose outputs have left their reset holds. -/
def running (role : BitVec 3) (r : Readiness) : State :=
  let s := unit role r
  let free (o : Output) : Output := { o with resetHold := false, inShutdown := false, pin := .running }
  { s with outputs := { s.outputs with a := free s.outputs.a, b := free s.outputs.b } }

def demandFlags : DemandFlags := { doors := false, stopHold := true, quiet := false, brake := false, both := false, disagree := false }

def demandIn (sequence : Byte) : DemandContent := { sequence, demand := -6000, speed := 65535, flags := demandFlags }

def demandFrame (sequence : Byte) : Frame :=
  composeFrame .demand 1 (demandPayload { sequence, demand := -6000, speed := 65535, flags := demandFlags, arrival := 0 })

def groupOf (role : BitVec 4) (a b : Nat) (actual aux : Int) : StateGroup :=
  { role, readiness := .ready, limitA := a, limitB := b, actual, aux, signature := 0, worst := .alarm, arrival := 0 }

def contentOf' (g : StateGroup) : StateContent :=
  { role := g.role, readiness := g.readiness, limitA := g.limitA, limitB := g.limitB, actual := g.actual, aux := g.aux,
    signature := g.signature, worst := g.worst }

def tractionGroup : StateGroup := groupOf 4 6000 6000 (-6000) 65535

def demandPeer : PeerRecord := { present := true, state := some (groupOf 1 0 0 0 0), lastSequence := some 7 }

/-- The unit with the DEMAND station 1 known. -/
def withDemandPeer (s : State) : State := { s with peers := alter s.peers 1 fun _ => demandPeer }

/-- The unit with a copy of a kind on the line. -/
def sending (k : FrameKind) (own detached probe : Bool) (s : State) : State :=
  let c : Copy := { kind := k, frame := composeFrame k 3 [], probe, own, detached }
  { s with link := { s.link with line := .busy, tx := some c } }

def slotOf (retries : Nat) : Slot := { payload := [0, 0, 2, 1], retries, probe := false, waiting := false }

/-- A snapshot of three motors, two brakes and a pack. -/
def snap (demand : Int) (pd pc : Nat) : Snapshot :=
  let st (r : Role) (a b : Nat) : SnapStation := { usable := true, role := r, limitA := a, limitB := b, aux := 550 }
  { demand, stale := false, tractionCease := false, linkCease := false
    stations := Vector.ofFn fun i =>
      match i.val with
      | 2 => st .pack pd pc
      | 3 => st .traction 1000 800
      | 4 => st .traction 600 500
      | 5 => st .friction 700 0
      | 6 => st .friction 300 0
      | _ => { usable := false, role := .none, limitA := 0, limitB := 0, aux := 0 }
    genset := none, pack := some 2 }

def withPass (d : Int) (s : State) : State := { s with share := { s.share with pass := some { snap := snap d 900 400, age := 200 } } }

def levelRecord (k : WearKind) (value : Int) (state : Level) : WearRecord :=
  { freshRecord k with value, watch := 600, alarm := 800, hysteresis := 20, state }

def withSlot (i : Fin 12) (r : WearRecord) (s : State) : State :=
  { s with wear := { s.wear with slots := alter s.wear.slots i fun _ => some r } }

def withList (name : ListName) (wait : Wait) (p : Fin 64) (st : Machine.Step) (s : State) : State :=
  { s with
    engine := { s.engine with list := some name, wait, pointer := p, memory := alter s.engine.memory p fun _ => st } }

def answeredState (c r : Nat) (reply : Reply) (answered : Option WarnEntry) (s : State) : State :=
  { s with port := { s.port with select := .answered { code := c, argument := r, reply, answered } } }

/-- A motor under the plan of a snapshot, its speed figure zeroed since its torque was formed at 1500 rpm from a grant of 958 (R169). -/
def motor : State :=
  let s := unit 4 .ready
  { s with
    share := { s.share with plan := some { number := 1, round := 0, body := computePlan s.items.sharing (snap 1500 0 0), ownGrant := 958 } }
    roles := { s.roles with traction := { s.roles.traction with applied := 958, torque := 609, aux := 1500 } } }

/-- The Demand Role's ramp base and the TRACTION role's applied grant and torque command after a command. -/
def figuresAfter (c : Instr) (s : State) : Option (Int × Int × Int) :=
  match exec c s with
  | .next t => some (t.roles.demand.rampBase, t.roles.traction.applied, t.roles.traction.torque)
  | .fault _ => none
  | .refused _ => none

/-- A command answers a next state. -/
def goesOn (c : Instr) (s : State) : Bool :=
  match exec c s with
  | .next _ => true
  | .fault _ => false
  | .refused _ => false

/-! ## Well-formedness: a term each check refuses -/

theorem test_wf_accepts_state_frame : wellFormed (.stateFrameReceived (composeFrame .state 4 (statePayload tractionGroup))) = true := by
  decide +kernel

theorem test_wf_refuses_frame_of_another_kind : wellFormed (.ceaseFrameReceived (composeFrame .state 4 (statePayload tractionGroup))) = false := by
  decide +kernel

theorem test_wf_refuses_demand_row_with_cease : wellFormed (.demandFrameReceived (composeFrame .cease 4 (ceasePayload .link 2 1)) 0) = false := by
  decide +kernel

theorem test_wf_refuses_bad_check : wellFormed (.stateFrameReceived { composeFrame .state 4 (statePayload tractionGroup) with check := 0 }) = false := by
  decide +kernel

theorem test_wf_refuses_warn_of_wrong_length : wellFormed (.warnFrameReceived (composeFrame .warn 4 [0])) = false := by
  decide +kernel

theorem test_wf_refuses_discard_of_accepted_frame : wellFormed (.frameDiscarded (composeFrame .cease 4 (ceasePayload .link 2 1))) = false := by
  decide +kernel

theorem test_wf_refuses_clash_of_unaccepted_frame : wellFormed (.stationClash (composeFrame .cease 3 [])) = false := by
  decide +kernel

theorem test_wf_refuses_known_code : wellFormed (.unknownCommand .whole 25) = false := by decide +kernel

/-! ## Witnesses: the step and the resets -/

theorem witness_StepRunsTheFrontCommand : (State.reset.withPending [.lineIdle, .stateEmission]).pending = .lineIdle :: [.stateEmission] := rfl

/-- Station 3 with every timer in its last microsecond: boundary, hold-off, emission, both captures, the absence timer, a conversion slot at the last position, both output periods and a pass. -/
def due : State :=
  let s := unit 1 .ready
  let last (o : Output) : Output := { o with period := 100, elapsed := 99 }
  { s with
    link := { s.link with holdOff := some 1 }
    round := { s.round with boundary := 1, emission := some 1 }
    share := { s.share with pass := some { snap := { demand := 0, stale := false, tractionCease := false, linkCease := false, stations := Vector.ofFn fun _ => { usable := false, role := .none, limitA := 0, limitB := 0, aux := 0 }, genset := none, pack := none }, age := 199 } }
    wheel := { s.wheel with elapsed := 124, position := 7 }
    capture :=
      { s.capture with
        c0 := { s.capture.c0 with timer := some 1 }, c1 := { s.capture.c1 with timer := some 0 }
        demod := { s.capture.demod with timer := some 1 } }
    outputs := { s.outputs with a := last s.outputs.a, b := last s.outputs.b } }

/-- An empty queue with every clause's timer at its boundary, and one with none of them due. -/
theorem witness_EmptyQueueLetsAMicrosecondPass :
    State.reset.pending = [] ∧ due.pending = [] ∧ due.round.boundary ≤ 1 ∧ due.link.holdOff = some 1 ∧ due.round.emission = some 1 ∧
      124 ≤ due.wheel.elapsed ∧ due.wheel.position = 7 ∧ (due.outputs.get .b).period ≤ (due.outputs.get .b).elapsed + 1 ∧
      (due.capture.get .c0).timer = some 1 ∧ (due.capture.get .c1).timer = some 0 ∧ due.capture.demod.timer = some 1 ∧
      (due.share.pass.map Pass.age) = some 199 ∧ 1 < State.reset.round.boundary ∧ State.reset.wheel.elapsed < 124 := by
  decide +kernel

/-- All eleven events of that microsecond are queued: both captures', both periods', the conversion and the measurement event that follows it, and the five single ones. -/
theorem test_tick_queues_every_due_event : (tick due).pending.length = 11 := by decide +kernel

theorem witness_StrapsAreReadAtResetOnly :
    isReset (.lock .whole 0) = false ∧ (fresh 6).role = .none ∧ (fresh 6).locked = false ∧ goesOn (.lock .whole 0) (fresh 6) = true ∧
      (fresh 5).pins.straps.role = 5 ∧ (fresh 7).pins.straps.role = 7 := by
  decide +kernel

theorem witness_LockedStatesAndLinkMoves :
    (unit 4 .ready).locked = true ∧ isReset (.transmissionStart none) = false ∧ goesOn (.transmissionStart none) (unit 4 .ready) = true := by
  decide +kernel

/-! ## Witnesses: frames and reception -/

theorem witness_ComposedFramesAreAcceptedAsSent_state :
    Role.ofCode tractionGroup.role = .traction ∧ tractionGroup.limitA ≤ 6000 ∧ tractionGroup.limitB ≤ 6000 ∧ -6000 ≤ tractionGroup.actual ∧
      0 ≤ tractionGroup.aux ∧ tractionGroup.aux ≤ 65535 := by
  decide +kernel

theorem witness_ComposedFramesAreAcceptedAsSent_demand :
    -6000 ≤ (-6000 : Int) ∧ judgeFrame (demandFrame 8) = some (.demand (demandIn 8)) := by
  decide +kernel

/-- Two rounds of TRACTION CEASE heard at a TRACTION node; a window at its last round and one that is not. -/
theorem witness_CeaseWindowsAreSetAndClose :
    receives (unit 4 .ready) = true ∧ senderOf (composeFrame .cease 5 (ceasePayload .traction 2 1)).precedence ≠ (unit 4 .ready).self ∧
      judgeFrame (composeFrame .cease 5 (ceasePayload .traction 2 1)) = some (.cease { kind := .traction, duration := 2, line := 1 }) ∧
      (unit 4 .ready).role = .traction ∧
      (let s := unit 4 .ready
       (windowOf { s with share := { s.share with link := { left := 1, setter := some (5, 1) } } } .link).left = 1) ∧
      (windowOf (unit 4 .ready) .link).left ≠ 1 := by
  decide +kernel

/-- The window that closes leaves the gate, with the grant waiting for the next plan and without. -/
theorem witness_CeaseWindowsAreSetAndClose_grant :
    let closing (awaiting : Bool) : State :=
      { motor with
        share := { motor.share with link := { left := 1, setter := some (5, 1) } }
        roles := { motor.roles with traction := { motor.roles.traction with applied := 0, torque := 0, awaiting } } }
    figuresAfter (.ceaseWindowClose .link) (closing true) = some (0, 0, 0) ∧
      (figuresAfter (.ceaseWindowClose .link) (closing false)).map (fun x => x.2.1) = some 958 := by
  decide +kernel

/-- A duplicate at a node that is not FRICTION. -/
theorem witness_DemandInTheFirstHalf_duplicate :
    let s := withDemandPeer (unit 4 .ready)
    receives s = true ∧ senderOf (demandFrame 7).precedence ≠ s.self ∧ judgeFrame (demandFrame 7) = some (.demand (demandIn 7)) ∧
      s.role ≠ .friction ∧ s.peers[senderOf (demandFrame 7).precedence].lastSequence = some (demandIn 7).sequence := by
  decide +kernel

/-- A new DEMAND at the last µs of the first half, and at a FRICTION node. -/
theorem witness_DemandInTheFirstHalf_new :
    let at_ (s : State) : State := { s with round := { s.round with phase := 4999 } }
    let s := at_ (withDemandPeer (unit 4 .ready))
    let u := at_ (withDemandPeer (unit 5 .ready))
    receives s = true ∧ senderOf (demandFrame 8).precedence ≠ s.self ∧ s.role ≠ .demand ∧ s.role ≠ .friction ∧
      s.peers[senderOf (demandFrame 8).precedence].lastSequence ≠ some (8 : Byte) ∧
      stationInUse { s with peers := alter s.peers (senderOf (demandFrame 8).precedence) (storeDemand (demandIn 8) s.round.count) }
          .demand = some (senderOf (demandFrame 8).precedence) ∧
      2 * s.round.phase < s.round.period * 1000 ∧ u.role = .friction ∧ receives u = true ∧ u.available = true ∧
      u.roles.friction.stopHold = false ∧ u.engine.holdsA = false := by
  decide +kernel

/-- A new DEMAND at a round phase of 0, and at the first µs after it. -/
theorem witness_DemandInTheFirstHalf_phases :
    let at_ (phase : Nat) : State := { withDemandPeer (unit 4 .ready) with round := { State.reset.round with phase } }
    (at_ 0).round.phase = 0 ∧ 2 * (at_ 0).round.phase < (at_ 0).round.period * 1000 ∧ (at_ 1).round.phase ≠ 0 ∧
      2 * (at_ 1).round.phase < (at_ 1).round.period * 1000 := by
  decide +kernel

/-- R27: an arrival taken after an expiry that found DEMAND stale leaves 1.25 periods of 10 ms, as in the other order. -/
theorem test_arrival_with_the_expiry_waits_long :
    (let s := { withDemandPeer (unit 4 .ready) with round := { State.reset.round with phase := 0, boundary := 10000 } }
     match exec (.demandFrameReceived (demandFrame 8) 0) s with
      | .next t => decide (t.round.boundary = 12500)
      | .fault _ => false
      | .refused _ => false) = true := by
  decide +kernel

theorem witness_LateDemandCausesABoundary :
    let s := { withDemandPeer (unit 4 .ready) with round := { count := 3, phase := 5000, period := 10, boundary := 0, emission := some 0, boundaryStruck := false, emissionStruck := true } }
    receives s = true ∧ judgeFrame (demandFrame 8) = some (.demand (demandIn 8)) ∧ s.role ≠ .demand ∧
      s.peers[senderOf (demandFrame 8).precedence].lastSequence ≠ some (8 : Byte) ∧
      stationInUse { s with peers := alter s.peers (senderOf (demandFrame 8).precedence) (storeDemand (demandIn 8) s.round.count) }
          .demand = some (senderOf (demandFrame 8).precedence) ∧
      s.round.period * 1000 ≤ 2 * s.round.phase := by
  decide +kernel

/-- A motor's frame; and a second DEMAND station beside station 1, which is fresh, of a single role and not in use. -/
theorem witness_StateFrameIsStored :
    let f := composeFrame .state 4 (statePayload tractionGroup)
    let s : State := { withDemandPeer (unit 4 .ready) with peers := alter (withDemandPeer (unit 4 .ready)).peers 6 fun _ => demandPeer }
    stationInUse s .demand = some 1 ∧ isFresh s (peer s 6) = true ∧ isSingle (heldRole (peer s 6)) = true ∧
    stationInUse s (heldRole (peer s 6)) ≠ some 6 ∧
    receives (unit 2 .ready) = true ∧ senderOf f.precedence ≠ (unit 2 .ready).self ∧
      judgeFrame f = some (.state (contentOf' tractionGroup)) ∧ (unit 2 .ready).role ≠ .friction ∧
      receives (unit 5 .ready) = true ∧ (unit 5 .ready).role = .friction ∧ Role.ofCode (contentOf' tractionGroup).role = .traction := by
  decide +kernel

theorem witness_WarnFrameIsStoredAndReadBack :
    let g : WarnGroup := { slots := Vector.ofFn fun i => if i.val = 11 then .unused else .watch, deficit := true, isolation := false, arrival := 0 }
    let f := composeFrame .warn 15 (warnPayload g)
    receives (unit 4 .ready) = true ∧ senderOf f.precedence ≠ (unit 4 .ready).self ∧
      judgeFrame f = some (.warn { slots := g.slots, deficit := true, isolation := false }) := by
  decide +kernel

theorem witness_LineEventsTouchTheLineOnly :
    judgeFrame { composeFrame .cease 5 (ceasePayload .traction 2 1) with check := 0 } = none ∧ (unit 4 .ready).link.line ≠ .waiting ∧
      (unit 4 .ready).link.tx = none := by
  decide +kernel

theorem witness_StationClashMutesTheLink :
    let f := composeFrame .state 3 (statePayload tractionGroup)
    receives (unit 4 .ready) = true ∧ senderOf f.precedence = (unit 4 .ready).self ∧
      judgeFrame f = some (.state (contentOf' tractionGroup)) ∧ (unit 4 .ready).link.state ≠ .muted ∧
      (unit 4 .ready).locked = true ∧ (unit 4 .ready).ready.state ≠ .faulted ∧ (unit 4 .unconfigured).locked = false ∧
      receives (unit 4 .unconfigured) = true := by
  decide +kernel

/-! ## Witnesses: transmission -/

theorem witness_ContentionSendsTheLowestKind :
    let s := unit 4 .ready
    let t : State := { s with link := { s.link with ceaseLeft := 1, outbox := { s.link.outbox with cease := some (slotOf 0), state := some (slotOf 0) } } }
    t.link.line = .idle ∧ t.link.tx = none ∧ t.link.state = .active ∧ t.link.outbox.get .cease = some (slotOf 0) ∧
      isEligible t.link .cease = true ∧
      (allKinds.all fun j => !isEligible t.link j || decide ((kindCode .cease).toNat ≤ (kindCode j).toNat)) = true := by
  decide +kernel

theorem witness_SuccessEmptiesTheSlot :
    let s := sending .state true false false (unit 4 .ready)
    let p := sending .state true false true (unit 4 .ready)
    let q : State := { p with link := { p.link with state := .isolated }, wear := { p.wear with isolation := { alarm := true, stamp := 0 } } }
    s.link.tx.isSome = true ∧ 0 < s.items.holdOff ∧ q.link.state = .isolated ∧ q.wear.isolation.alarm = true ∧ q.locked = true ∧
      (q.link.tx.map fun c => (c.probe, c.detached, c.kind)) = some (true, false, .state) := by
  decide +kernel

/-- R170: the grant of the plan held is not applied at the return of the link. -/
theorem test_return_waits_for_the_next_plan :
    let p := sending .state true false true motor
    let q : State :=
      { p with
        link := { p.link with state := .isolated }
        roles := { p.roles with traction := { p.roles.traction with applied := 0, torque := 0 } } }
    figuresAfter .transmissionSuccess q = some (0, 0, 0) := by
  decide +kernel

/-- A first failure, an exhaustion, and the exhaustion that brings the streak from 7 to 8. -/
theorem witness_FailureAndExhaustion :
    let s := sending .warn true false false (unit 4 .ready)
    let at_ (retries streak : Nat) : State :=
      { s with link := { s.link with streak, outbox := { s.link.outbox with warn := some (slotOf retries) } } }
    (at_ 0 0).link.outbox.get .warn = some (slotOf 0) ∧ (slotOf 2).retries + 1 < (at_ 2 0).items.retryLimit ∧
      (at_ 3 0).items.retryLimit ≤ (slotOf 3).retries + 1 ∧ (at_ 3 7).link.streak = 7 ∧ (at_ 3 7).link.state = .active ∧
      ((at_ 3 7).link.tx.map fun c => (c.own, c.detached, c.kind)) = some (true, false, .warn) := by
  decide +kernel

theorem witness_TimedPlacementsAndExpiries :
    let s := unit 4 .ready
    (let t : State := { s with link := { s.link with ceaseLeft := 1 } }; t.link.ceaseLeft = 1) ∧ s.link.ceaseLeft ≠ 1 ∧
      (let t : State := { s with link := { s.link with state := .isolated, probeCount := 99 } }; t.link.state = .isolated ∧ 99 ≤ t.link.probeCount) ∧
      (let t : State := { s with round := { s.round with emission := some 0 } }; t.round.emission = some 0 ∧ t.round.emissionStruck = false) ∧
      (let t : State := { s with wear := { s.wear with refresh := 99 } }; t.locked = true ∧ 99 ≤ t.wear.refresh) ∧ s.wear.refresh < 99 := by
  decide +kernel

/-! ## Witnesses: rounds, peers, the share -/

theorem witness_BoundaryExpiryTurnsTheRound :
    let s := withDemandPeer (unit 4 .ready)
    s.round.boundaryStruck = false ∧
    (let t : State := { s with round := { s.round with boundaryStruck := true } }; t.round.boundaryStruck = true) ∧ s.items.sharing.staleLimit ≤ 8 ∧ s.role ≠ .demand ∧ s.locked = true ∧
      demandFresh { s with round := { s.round with count := s.round.count + 1 } } = false ∧
      (let g : DemandGroup := { sequence := 1, demand := 5, speed := 0, flags := demandFlags, arrival := 0 }
       let t : State := { s with peers := alter s.peers 1 fun r => { r with demand := some g } }
       demandFresh { t with round := { t.round with count := t.round.count + 1 } } = true) := by
  decide +kernel

/-- A motor under a steady grant, no cease window open. -/
theorem witness_BoundaryExpiryTurnsTheRound_grant :
    motor.role = .traction ∧ motor.roles.traction.applied = appliedGrant motor ∧ motor.engine.list = none ∧
      motor.ready.state ≠ .starting ∧ motor.ready.state ≠ .stopping ∧ motor.share.traction.left = 0 ∧ motor.share.link.left = 0 := by
  decide +kernel

/-- R169: a boundary forms no torque command; the zeroed speed figure waits for the measurement event. -/
theorem test_boundary_keeps_the_torque :
    figuresAfter (.boundaryTimerExpiry 0) motor = some (0, 958, 609) := by
  decide +kernel

theorem witness_BoundaryComputesTheDemand :
    ({} : DemandItems).deadband ≤ 999 ∧ (unit 1 .ready).round.boundaryStruck = false ∧
    (levelRecord .bothPedals 0 .clear).value < Config.wearTop ∧ (unit 1 .ready).role = .demand ∧ (unit 1 .ready).engine.list = none ∧ (unit 1 .ready).ready.state ≠ .starting ∧
      (unit 1 .ready).ready.state ≠ .stopping ∧ (unit 1 .ready).available = true ∧ (unit 1 .ready).link.state = .active := by
  decide +kernel

/-- A record 251 rounds old, and one 250 rounds old. -/
theorem witness_SilentRecordIsForgotten :
    let at_ (n : Round) : State := { withDemandPeer (unit 4 .ready) with round := { State.reset.round with count := n } }
    (at_ 251).role ≠ .friction ∧ (1 : Station) ≠ (at_ 251).self ∧ (at_ 251).peers[(1 : Station)] = demandPeer ∧
      250 < ageOf (at_ 251) 0 ∧ ageOf (at_ 250) 0 ≤ 250 := by
  decide +kernel

theorem witness_ModeFollowsTheHeldDemand : 0 < (snap 1 0 0).demand ∧ (snap 0 0 0).demand = 0 ∧ (snap (-1) 0 0).demand < 0 := by
  decide +kernel

/-- A plan whose supply falls short, and one that does not. -/
theorem witness_TractionPlanKeepsItsLimits :
    0 ≤ (snap 500 100 400).demand ∧ (computePlan {} (snap 500 100 400)).flags.supplyShort = true ∧
      (computePlan {} (snap 500 900 400)).flags.supplyShort = false ∧ inSet (snap 500 900 400) .traction 3 = true ∧
      inSet (snap 500 900 400) .friction 5 = true ∧ inSet (snap 500 900 400) .traction 0 = false := by
  decide +kernel

theorem witness_BrakingPlanAccountsForTheDemand :
    (snap (-1600) 900 400).demand < 0 ∧ ({} : Sharing).rho ≤ 1000 ∧ inSet (snap (-1600) 900 400) .traction 4 = true ∧
      inSet (snap (-1600) 900 400) .friction 6 = true := by
  decide +kernel

/-- A generator set beside a pack, demand and all, and its snapshot's station in use. -/
def gensetPass (soc : Int) : State :=
  let s := unit 2 .ready
  let n : Snapshot := { snap 500 900 400 with genset := some 3 }
  { s with
    share :=
      { s.share with
        pass :=
          some
            { snap :=
                { n with
                  stations :=
                    alter (alter n.stations 2 fun x => { x with aux := soc }) 3 fun _ =>
                      { usable := true, role := .genset, limitA := 800, limitB := 0, aux := 0 } }
              age := 200 } } }

/-- A brake at station 5 of the bus, with contributions that add to more than 12,000. -/
def brakePass (l : LinkState) : State :=
  let s := State.powerOn { station := 5, role := 5 } 0xF 0 (Vector.ofFn fun _ => 0)
  { s with
    link := { s.link with state := l }, ready := { s.ready with state := .ready, limitA := 700 }
    share := { s.share with pass := some { snap := snap (-1600) 900 400, age := 200 } }
    items := { s.items with sharing := { s.items.sharing with distribution := alter s.items.sharing.distribution 5 fun _ => 1000 } }
    roles := { s.roles with friction := { s.roles.friction with contributions := Vector.ofFn fun i => if i.val = 3 ∨ i.val = 4 then 12000 else 0 } } }

/-- A motor whose grant applies, and one whose grant a LINK CEASE withholds; a pack at, below and above the marks; brakes in BRAKING, isolated and not. -/
theorem witness_CompletionPublishesThePlan_roles :
    let w := withPass 500 (unit 4 .ready)
    let c : State := { w with share := { w.share with link := { left := 1, setter := some (1, 0) } } }
    w.available = true ∧ w.share.traction.left = 0 ∧ w.share.link.left = 0 ∧ w.link.state ≠ .isolated ∧ c.share.link.left ≠ 0 ∧
      w.engine.holdsA = false ∧ w.items.dutyLo ≤ w.items.dutyHi ∧ 1 ≤ w.items.traction.torqueMax ∧
      (gensetPass 550).role = .genset ∧ (gensetPass 550).peers[(gensetPass 550).self].surplus = false ∧
      ((gensetPass 550).share.pass.map fun p => ((packStation p.snap).isNone, packSoc p.snap, p.snap.genset)) = some (false, 550, some 3) ∧
      (gensetPass 550).items.sharing.socLow ≤ 550 ∧ 0 < (gensetPass 0).items.sharing.socLow ∧
      ((withPass 500 (unit 2 .ready)).share.pass.map fun p => p.snap.genset) = some none ∧
      (brakePass .active).role = .friction ∧ (snap (-1600) 900 400).demand < 0 ∧ inSet (snap (-1600) 900 400) .friction 5 = true ∧
      (brakePass .active).link.state ≠ .isolated ∧ (brakePass .isolated).link.state = .isolated ∧
      (withPass 500 (unit 5 .ready)).link.state ≠ .isolated := by
  decide +kernel

/-- R171, R174: of 24,000 that two motors left, all of it the share of station 5, the own part is 12,000. -/
theorem test_own_part_within_its_range :
    (match exec (.shareCompletion 0) (brakePass .active) with
      | .next t => decide (t.roles.friction.ownPart = 12000)
      | .fault _ => false
      | .refused _ => false) = true := by
  decide +kernel

theorem witness_CompletionPublishesThePlan :
    (withPass 500 (unit 4 .ready)).share.pass.isSome = true ∧ (withPass 500 (unit 4 .ready)).role = .traction ∧
      (withPass 500 (unit 2 .ready)).role = .genset ∧ (withPass 500 (unit 3 .ready)).role = .pack ∧
      (withPass 500 (unit 1 .ready)).role = .demand ∧ (withPass 500 (unit 5 .ready)).role = .friction ∧
      (withPass 500 (unit 5 .ready)).share.pendingDemand = none ∧
      (computePlan ({} : Sharing) (snap 500 900 400)).mode ≠ .braking := by
  decide +kernel

/-! ## Witnesses: wear -/

theorem witness_WearRecordsAreJudged :
    kindDirection (levelRecord .starts 800 .clear).kind = .rising ∧ kindDirection (levelRecord .motorTemp 800 .clear).kind = .levelHighBad ∧
      kindDirection (levelRecord .liningThickness 600 .alarm).kind = .levelLowBad := by
  decide +kernel

theorem witness_RisingValuesNeverFall :
    mayLowerWear 11 .measurementEvent = false ∧ mayLowerWear 11 (.loadItem .whole 0x0701 11 5) = false ∧
      mayLowerWear 11 (.loadItem .whole 0x0700 10 5) = false ∧ mayLowerWear 11 (.serviceReset .whole 10) = false ∧ goesOn .measurementEvent (withSlot 11 (freshRecord .runTime) (unit 4 .ready)) = true ∧
      (withSlot 11 (freshRecord .runTime) (unit 4 .ready)).wear.slots[(11 : Fin 12)] = some (freshRecord .runTime) ∧
      kindDirection (freshRecord .runTime).kind = .rising ∧ (freshRecord .runTime).value ≤ Config.wearTop := by
  decide +kernel

/-! ## Witnesses: readiness and the Step Engine -/

theorem witness_ExpiredListFails :
    let s := withList .entry (.hold 1) 63 (.hold (.inputHigh 0) 5 false) (running 4 .starting)
    let t : State := { s with engine := { s.engine with budget := 999 } }
    t.engine.list = some .entry ∧ t.engine.budget + 1 = budgetOf t.items .entry ∧ t.ready.state = .starting ∧ t.role ≠ .genset ∧
      s.engine.wait = .hold 1 ∧ s.engine.memory[s.engine.pointer] = .hold (.inputHigh 0) 5 false ∧
      holdPasses { s with pins := { s.pins with inputs := 0 } } (.inputHigh 0) false = false := by
  decide +kernel

theorem witness_PauseAndPulseEnd :
    let s := withList .exit (.pause 1) 62 (.pause 1) (unit 4 .stopping)
    let t : State := { s with engine := { s.engine with memory := alter s.engine.memory 63 fun _ => .pause 3, pulses := alter s.engine.pulses 2 fun _ => 1 } }
    t.engine.list = some .exit ∧ t.engine.wait = .pause 1 ∧ (63 : Fin 64).val = t.engine.pointer.val + 1 ∧
      t.engine.memory[(63 : Fin 64)] = .pause 3 ∧ (withList .exit (.pause 1) 63 .ret (unit 4 .stopping)).engine.pointer.val = 63 ∧
      (withList .exit (.pause 2) 63 .ret (unit 4 .stopping)).engine.wait = .pause 2 ∧
      t.engine.pulses[(2 : Fin 4)] = 1 ∧ t.engine.pulses[(3 : Fin 4)] ≠ 1 := by
  decide +kernel

theorem witness_StepsAreCarriedOut :
    let s := withList .entry .none 61 .ret (unit 5 .starting)
    let full : State := { s with engine := { s.engine with stack := [1, 2, 3, 4] } }
    holdsCondition s (.inputLow 0) = true ∧ (63 : Fin 64).val = s.engine.pointer.val + 2 ∧ holdsCondition s (.inputHigh 0) = false ∧
      (62 : Fin 64).val = s.engine.pointer.val + 1 ∧ s.engine.stack = [] ∧ full.engine.stack = (1 : Fin 64) :: [2, 3, 4] ∧
      4 ≤ full.engine.stack.length ∧ s.items.protectedTargets = false ∧ (unit 4 .starting).role = .traction ∧
      s.engine.budget + 1 ≠ budgetOf s.items .entry := by
  decide +kernel

/-- A PULSE on a line whose count runs, its retrigger flag off; a HOLD that passes and one that output A's shutdown keeps waiting, in a turn and at a boundary; END of an ENTRY and of an EXIT list. -/
theorem witness_StepsAreCarriedOut_waits :
    let s := withList .entry (.hold 2) 62 (.hold (.inputLow 0) 5 false) (running 4 .starting)
    let down : State := { s with outputs := { s.outputs with a := { s.outputs.a with inShutdown := true } } }
    let pulsing : State := { s with engine := { s.engine with pulses := alter s.engine.pulses 1 fun _ => 3 } }
    let off := withList .exit .none 0 (.end_ false) (running 4 .stopping)
    0 < pulsing.engine.pulses[(1 : Fin 4)] ∧ pulsing.items.discretes[(1 : Fin 4)].retrigger = false ∧ s.engine.pulses[(1 : Fin 4)] = 0 ∧
      (63 : Fin 64).val = s.engine.pointer.val + 1 ∧ holdsCondition s (.inputLow 0) = true ∧ s.outputs.a.inShutdown = false ∧
      down.outputs.a.inShutdown = true ∧ s.engine.wait = .hold 2 ∧
      s.engine.memory[s.engine.pointer] = .hold (.inputLow 0) 5 false ∧ s.engine.list = some .entry ∧ s.role ≠ .genset ∧
      off.engine.list = some .exit ∧ off.ready.state = .stopping ∧ off.ready.stopDest = .offline := by
  decide +kernel

/-- A CALL at step 63 and one with a target out of step memory; permitted targets at a node that is neither motor nor generator set; a list that starts at a PAUSE, at a JUMP to itself and at a SET before a PAUSE. -/
theorem witness_StepsAreCarriedOut_bounds :
    let s := withList .entry .none 63 (.pause 1) (unit 5 .starting)
    let u : State := { s with items := { s.items with protectedTargets := true, entryStart := some 63, exitStart := some 0 } }
    let turning : State := { u with engine := { u.engine with memory := alter u.engine.memory 0 fun _ => .jump 0 } }
    let setting : State := { u with engine := { u.engine with memory := alter (alter u.engine.memory 0 fun _ => .set (.outputB 1000)) 1 fun _ => .pause 2 } }
    s.engine.pointer.val = 63 ∧ s.engine.stack.length < 4 ∧ 63 < 64 ∧ u.role ≠ .traction ∧ u.role ≠ .genset ∧
      u.items.protectedTargets = true ∧ u.items.dutyLo ≤ u.items.dutyHi ∧ u.ready.state = .starting ∧
      startOf u.items .entry = some 63 ∧ u.engine.memory[(63 : Fin 64)] = .pause 1 ∧
      startOf turning.items .exit = some 0 ∧ turning.engine.memory[(0 : Fin 64)] = .jump (0 : Fin 64).val ∧
      setting.engine.memory[(0 : Fin 64)] = .set (.outputB 1000) ∧ (1 : Fin 64).val = (0 : Fin 64).val + 1 ∧
      setting.engine.memory[(1 : Fin 64)] = .pause 2 := by
  decide +kernel

/-- Packs at, below and above the marks of the SOC factors; motors at a standstill, under the fade speed and at it. -/
theorem witness_PassagesWithoutAListComplete_terms :
    let pack (soc : Nat) : State := { unit 3 .starting with roles := { (unit 3 .starting).roles with pack := { (unit 3 .starting).roles.pack with soc } } }
    let motor (speed : Nat) : State := { unit 4 .starting with capture := { (unit 4 .starting).capture with c0 := { (unit 4 .starting).capture.c0 with speed } } }
    (pack 350).role = .pack ∧ (pack 350).items.sharing.socLow ≤ (pack 350).roles.pack.soc ∧
      (pack 349).roles.pack.soc < (pack 349).items.sharing.socLow ∧ (pack 900).roles.pack.soc ≤ 900 ∧ 900 < (pack 901).roles.pack.soc ∧
      (motor 300).role = .traction ∧ (motor 300).items.traction.fadeSpeed ≤ (motor 300).speed .c0 ∧
      (motor 299).speed .c0 < (motor 299).items.traction.fadeSpeed ∧ (motor 0).speed .c0 = 0 := by
  decide +kernel

/-- R158: at SOC 300 and 950 the pack of 2500 and 2000 posts 2142 and 1000. R167: the motor of 1200 at 600 and 200 rpm posts 754 and 167. -/
theorem test_role_terms :
    2500 * dischargeFactor 300 350 / 1000 = 2142 ∧ 2000 * chargeFactor 950 / 1000 = 1000 ∧
      regenTerms { torqueMax := 1200, fadeSpeed := 300 } 600 1200 = 754 ∧
      regenTerms { torqueMax := 1200, fadeSpeed := 300 } 200 1200 = 167 := by
  decide +kernel

theorem witness_PassagesWithoutAListComplete :
    (unit 4 .starting).engine.list = none ∧ (unit 4 .starting).ready.state = .starting ∧ (unit 4 .starting).items.entryStart = none ∧
      (unit 4 .stopping).ready.state = .stopping ∧ (unit 4 .stopping).items.exitStart = none := by
  decide +kernel

theorem witness_GeneratorSetStartsAndStops :
    let s := unit 2 .standby
    let t : State :=
      { s with ready := { s.ready with offCount := 500, gapCount := 200 }, roles := { s.roles with genset := { s.roles.genset with request := true } } }
    let u := running 2 .derated
    let v : State := { u with ready := { u.ready with onCount := 3000 } }
    t.role = .genset ∧ t.ready.state = .standby ∧ t.roles.genset.request = true ∧ t.items.minOff ≤ t.ready.offCount ∧
      t.items.retryGap ≤ t.ready.gapCount ∧ t.items.entryStart = none ∧
      (let l (x : State) : State := { x with items := { x.items with entryStart := some 63, exitStart := some 63 }, engine := { x.engine with memory := alter x.engine.memory 63 fun _ => .pause 1 } }
       (l t).items.entryStart = some 63 ∧ (l v).items.exitStart = some 63 ∧ (l t).engine.memory[(63 : Fin 64)] = .pause 1 ∧ (l v).roles.genset.request = false) ∧
      v.ready.state = .derated ∧ v.roles.genset.request = false ∧
      v.items.minOn ≤ v.ready.onCount ∧ v.items.exitStart = none := by
  decide +kernel

theorem witness_CurveInterpolatesItsPoints :
    ascending [⟨1200, 1000⟩, ⟨1400, 700⟩, ⟨1600, 0⟩] = true ∧ (∀ q ∈ ([⟨1200, 1000⟩, ⟨1400, 700⟩, ⟨1600, 0⟩] : List CurvePoint), q.f ≤ 1000) := by
  decide +kernel

/-! ## Witnesses: measurement -/

theorem witness_ConversionScalesAndFilters :
    (0 : Int) ≤ 0 ∧ (5000000 : Int) ≤ 5000000 ∧ (0 : Int) ≤ 4999999 ∧ (4999999 : Int) < 5000000 ∧ (unit 4 .ready).wheel.map[(7 : Fin 8)] = none ∧ (unit 4 .ready).wheel.map[(3 : Fin 8)] = some 3 ∧
      (unit 4 .ready).wheel.channels[(3 : Fin 4)].seed = true ∧
      (let s := unit 4 .ready
       let t : State := { s with wheel := { s.wheel with channels := alter s.wheel.channels 3 fun _ => { latest := 0, filtered := 0, seed := false } } }
       t.wheel.channels[(3 : Fin 4)].seed = false) := by
  decide +kernel

theorem witness_MeasurementEventHandsOnItsFigures :
    (unit 4 .ready).items.capture0.mode ≠ .demodulate ∧
      (let s := unit 4 .ready
       let t (r : Option Micros) : State := { s with capture := { s.capture with c0 := { s.capture.c0 with fifo := [10, 20], reference := r } } }
       2 ≤ ((t none).capture.get .c0).fifo.length ∧ ((t none).capture.get .c0).reference = none ∧ ((t none).capture.get .c0).overflow = false ∧
         ((t (some 5)).capture.get .c0).reference = some 5 ∧ ((t none).capture.get .c0).fifo.head? = some 10 ∧
         ((t none).capture.get .c0).fifo.getLast? = some 20) ∧
      (let s := unit 5 .ready
       let t : State := { s with items := { s.items with capture1 := { s.items.capture1 with mode := .demodulate } } }
       (t.items.capture .c1).mode = .demodulate) ∧
      (unit 4 .ready).items.monitors[(0 : Fin 2)].channel = none ∧
      (withSlot 0 (freshRecord .motorTemp) (unit 4 .ready)).wear.slots[(0 : Fin 12)] = some (freshRecord .motorTemp) := by
  decide +kernel

theorem witness_PackCountsItsCharge : (unit 3 .ready).role = .pack ∧ (unit 3 .ready).locked = true := by decide +kernel

theorem witness_EdgesFormSpeedAndDuty :
    let s := unit 5 .ready
    let d : State := { s with items := { s.items with capture1 := { s.items.capture1 with mode := .demodulate } }, capture := { s.capture with demod := { s.capture.demod with rising := some 5, high := some 3, timer := some 0 } } }
    (s.items.capture .c0).mode ≠ .demodulate ∧ edgesPerCapture (s.items.capture .c0).mode ≤ (s.capture.get .c0).edges + 1 ∧
      (s.capture.get .c0).fifo.length < 4 ∧
      (let t : State := { s with capture := { s.capture with c0 := { s.capture.c0 with fifo := [1, 2, 3, 4], timer := some 0 } } }
       4 ≤ (t.capture.get .c0).fifo.length ∧ (t.capture.get .c0).timer = some 0 ∧ (t.capture.get .c0).struck = false) ∧
      (let t : State := { s with capture := { s.capture with c1 := { s.capture.c1 with struck := true } } }; (t.capture.get .c1).struck = true) ∧
      d.capture.demod.struck = false ∧
      (let t : State := { d with capture := { d.capture with demod := { d.capture.demod with struck := true } } }; t.capture.demod.struck = true) ∧
      d.items.capture1.mode = .demodulate ∧ d.capture.demod.rising = some 5 ∧ d.capture.demod.high = some 3 ∧ d.capture.micros ≠ 5 ∧
      d.capture.demod.timer = some 0 := by
  decide +kernel

/-! ## Witnesses: outputs -/

theorem witness_PeriodEndUpdatesTheOutput :
    let s := running 4 .ready
    let free : State := { s with outputs := { s.outputs with a := { s.outputs.a with inShutdown := true } } }
    let entry : State := { s with outputs := { s.outputs with b := { s.outputs.b with source := .entryPending } } }
    (s.outputs.get .a).inShutdown = false ∧ (s.outputs.get .a).source = .none ∧ s.ready.state ≠ .faulted ∧
      (free.outputs.get .a).inShutdown = true ∧ (free.outputs.get .a).resetHold = false ∧ free.available = true ∧
      ((unit 4 .ready).outputs.get .b).inShutdown = true ∧ ((unit 4 .ready).outputs.get .b).resetHold = true ∧
      (entry.outputs.get .b).source = .entryPending := by
  decide +kernel

/-- An output in automatic shutdown, with restart LATCHED and with restart AUTOMATIC. -/
theorem witness_ActiveLineShutsTheOutputDown_automatic :
    let s := running 4 .ready
    let at_ (restart : RestartMode) : State :=
      { s with
        items := { s.items with outputA := { s.items.outputA with enable := 8, restart }, outputB := { s.items.outputB with enable := 0 } }
        outputs := { s.outputs with a := { s.outputs.a with source := .automatic } } }
    (at_ .latched).pins.lines.getLsbD 3 ≠ false ∧ ((at_ .latched).items.output .a).enable.getLsbD 3 = true ∧
      ((at_ .latched).items.output .b).enable.getLsbD 3 = false ∧ ((at_ .latched).outputs.get .a).source = .automatic ∧
      ((at_ .latched).items.output .a).restart = .latched ∧ (at_ .latched).locked = true ∧ (fresh 4).locked = false ∧
      ((at_ .automatic).items.output .a).restart = .automatic := by
  decide +kernel

/-- A line that falls to its active level, enabled at output A alone. -/
theorem witness_ActiveLineShutsTheOutputDown :
    let s := running 4 .ready
    let at_ (entry : EntryMode) : State :=
      { s with items := { s.items with outputA := { s.items.outputA with enable := 8, entry, restart := .latched } } }
    (at_ .immediate).pins.lines.getLsbD 3 ≠ false ∧ (at_ .immediate).items.lines[(3 : Fin 4)].activeHigh = false ∧
      (at_ .immediate).items.lines[(3 : Fin 4)].cease = none ∧ ((at_ .immediate).items.output .a).enable.getLsbD 3 = true ∧
      ((at_ .immediate).items.output .b).enable.getLsbD 3 = false ∧ ((at_ .immediate).outputs.get .a).source = .none ∧
      ((at_ .immediate).items.output .a).entry = .immediate ∧ (at_ .immediate).locked = true ∧
      ((at_ .immediate).items.output .a).restart = .latched ∧ ((at_ .atPeriodEnd).items.output .a).entry = .atPeriodEnd := by
  decide +kernel

theorem witness_CeaseTripOpensTheWindow :
    let s := unit 4 .ready
    let t : State := { s with items := { s.items with lines := alter s.items.lines 0 fun k => { k with cease := some .link } } }
    t.pins.lines.getLsbD 0 ≠ false ∧ t.items.lines[(0 : Fin 4)].activeHigh = false ∧ t.items.lines[(0 : Fin 4)].cease = some .link ∧
      t.items.outputA.enable.getLsbD 0 = false ∧ t.items.outputB.enable.getLsbD 0 = false ∧ t.link.state = .active ∧
      s.items.lines[(0 : Fin 4)].activeHigh ≠ true := by
  decide +kernel

/-! ## Witnesses: the local port -/

theorem witness_AnswerPointTouchesThePortOnly :
    1 ≤ (25 : Byte).toNat ∧ (25 : Byte).toNat ≤ 25 ∧ ([] : List Byte).length = argumentSize 25 ∧ ([1, 2, 3, 4] : List Byte).length = argumentSize 11 ∧
    ([1, 2, 3] : List Byte).length < argumentSize 11 ∧ 25 < (26 : Byte).toNat ∧ (unit 4 .ready).port.select ≠ .void ∧
    (let s := unit 4 .ready
     let t : State := { s with port := { s.port with select := .void } }
     t.port.select = .void) ∧ (requestOf (.engage .answer 5)).isSome = true ∧ (requestOf (.engage .answer 5)).map Prod.fst = some .answer := by
  decide +kernel

/-- R198: the bytes of READ PEER 3, and of LOAD ITEM 0200 (start retries), index 0, value 2. -/
theorem test_exchange_bytes_name_their_command :
    exchangeCommand 0 [13, 3, 0, 0] = .readPeer .whole 3 ∧ exchangeCommand 0 [1, 2, 0, 0, 0, 0, 0, 2] = .loadItem .whole 0x0200 0 2 ∧
      exchangeCommand 9 [4] = .lock .whole 9 := by
  decide +kernel

/-- R196: the answer point of an exchange that a reset cut replies nothing. -/
theorem test_cut_exchange_is_not_answered :
    (let s := unit 4 .ready
     let cut : State := { s with port := { s.port with select := .void } }
     match exec (.engage .answer 0) cut with
      | .next t => decide (t.port = cut.port)
      | .fault _ => false
      | .refused _ => false) = true := by
  decide +kernel

/-- R151, R198: at a GENSET node READ STATUS reports the request OFF after reset as 1, the first of its four role bytes. -/
theorem test_request_code_is_off : (roleBytes (unit 2 .standby)).head? = some 1 := by decide +kernel

/-- Refused at the answer point; accepted there and refused at deselect; accepted at both. -/
theorem witness_DeselectCarriesOutWhatStillStands :
    let q := clearFaultRequest
    let a := answeredState q.code q.argument .wrongState none (unit 4 .ready)
    let b := answeredState q.code q.argument .ok none (unit 4 .ready)
    (requestOf (.clearFault .deselect)).map Prod.fst = some .deselect ∧ 8 ≤ replyCode .wrongState ∧ replyCode .ok < 8 ∧
      8 ≤ replyCode (q.judge b) ∧ (requestOf (.clearFault .select)).map Prod.fst = some .select ∧ (openSelect b).port.select = .opened ∧
      a.port.select ≠ .waiting ∧ (unit 4 .ready).port.select = .waiting ∧
      replyCode (shareRequest.judge (unit 4 .ready)) < 8 ∧ (0 : Byte).toNat = 0 ∧ 25 < (26 : Byte).toNat := by
  decide +kernel

theorem witness_LoadItemStoresAPlainItem :
    (fresh 4).locked = false ∧ (plainItem (0x0002 : BitVec 16).toNat).isSome = true ∧ (unit 4 .offline).locked = true := by
  decide +kernel

theorem witness_LoadStepStoresTheStep :
    stepInRange (.hold (.channelAtLeast 3 (-32768)) 65535 true) = true ∧ (fresh 4).locked = false ∧
      (63 : Byte).toNat = (63 : Fin 64).val ∧ 63 < (64 : Byte).toNat ∧ (unit 4 .offline).locked = true := by
  decide +kernel

theorem witness_WearSlotsZoneAndCharge :
    (withSlot 11 (freshRecord .starts) (fresh 2)).wear.slots[(11 : Fin 12)] = some (freshRecord .starts) ∧
      kindDirection (freshRecord .starts).kind = .rising ∧ (withSlot 11 (freshRecord .starts) (fresh 2)).locked = false ∧
      (unit 1 .ready).role = .demand ∧ (unit 2 .ready).role ≠ .demand ∧ (unit 3 .offline).role = .pack ∧
      (unit 3 .offline).ready.state = .offline ∧ (unit 3 .ready).ready.state ≠ .offline := by
  decide +kernel

/-- A record that stands at its watch threshold before LOCK, and one below it. -/
theorem witness_LockChecksAndLocks_records :
    let s := withSlot 11 { freshRecord .runTime with value := 7, watch := 7 } (withSlot 0 (freshRecord .motorTemp) (fresh 4))
    s.locked = false ∧ s.wear.segment = none ∧
      s.wear.slots[(11 : Fin 12)] = some { freshRecord .runTime with value := 7, watch := 7 } ∧
      judgeRecord { freshRecord .runTime with value := 7, watch := 7 } = .watch ∧ (freshRecord .runTime).state = .clear ∧
      judgeRecord (freshRecord .motorTemp) = .clear := by
  decide +kernel

theorem witness_LockChecksAndLocks :
    (unit 4 .offline).locked = true ∧ (fresh 0).role = .none ∧ (fresh 4).locked = false ∧ (fresh 4).role ≠ .none ∧
      ascending (curvePoints (fresh 4).items) = true ∧ (fresh 4).items.dutyLo < (fresh 4).items.dutyHi ∧
      (fresh 4).link.clashHeld = false ∧ (fresh 4).outputs.a.source ≠ .latched ∧ (fresh 4).items.autoEngage = false ∧
      (let s := fresh 4
       let t : State := { s with items := { s.items with curveCount := 2, dutyHi := s.items.dutyLo } }
       ascending (curvePoints t.items) = false ∧ t.items.dutyHi ≤ t.items.dutyLo) := by
  decide +kernel

/-- ENTRY and EXIT lists that begin with a PAUSE at step 63; DISENGAGE in STARTING with such a list and in READY; CLEAR FAULT with SHUTDOWN among the causes. -/
theorem witness_EngageDisengageClear_lists :
    let lists (s : State) : State :=
      { s with items := { s.items with entryStart := some 63, exitStart := some 63 }, engine := { s.engine with memory := alter s.engine.memory 63 fun _ => .pause 1 } }
    let f := unit 4 .faulted
    let latched : State :=
      { f with
        ready := { f.ready with causes := { start := false, stop := false, shutdown := true, clash := false } }
        outputs := { f.outputs with a := { f.outputs.a with source := .latched } } }
    (lists (unit 4 .offline)).role ≠ .genset ∧ (lists (unit 4 .offline)).items.entryStart = some 63 ∧
      (lists (unit 4 .offline)).engine.memory[(63 : Fin 64)] = .pause 1 ∧ (lists (unit 4 .derated)).items.exitStart = some 63 ∧
      (lists (withList .entry .none 5 .ret (unit 4 .starting))).engine.list = some .entry ∧
      (lists (withList .entry .none 5 .ret (unit 4 .starting))).items.exitStart = some 63 ∧
      (let s := lists (withList .entry .none 5 .ret (unit 4 .starting))
       let t : State := { s with items := { s.items with exitStart := none } }
       t.items.entryStart = some 63 ∧ t.items.exitStart = none ∧ t.engine.list = some .entry) ∧
      (unit 4 .starting).engine.list = none ∧ latched.ready.state = .faulted ∧ latched.ready.causes.clash = false ∧
      latched.ready.causes.shutdown = true ∧ latched.outputs.a.source = .latched ∧
      (let t : State := { latched with outputs := { latched.outputs with a := { latched.outputs.a with source := .automatic } } }
       t.outputs.a.source ≠ .latched) ∧
      (unit 4 .unconfigured).ready.state = .unconfigured ∧ (unit 2 .offline).role = .genset := by
  decide +kernel

theorem witness_EngageDisengageClear :
    (unit 2 .offline).items.entryStart = none ∧ (unit 2 .offline).items.exitStart = none ∧ (unit 2 .offline).ready.state = .offline ∧
      (unit 2 .standby).ready.state = .standby ∧ (withList .entry .none 0 .ret (unit 4 .starting)).engine.list = some .entry ∧
      (unit 4 .stopping).ready.state = .stopping ∧
      (let s := unit 4 .faulted
       let t : State := { s with ready := { s.ready with causes := { start := true, stop := false, shutdown := false, clash := false } } }
       t.ready.state = .faulted ∧ t.ready.causes.clash = false ∧ t.ready.causes.shutdown = false) := by
  decide +kernel

/-- R140: a node that is disengaged starts its ramp from 0. -/
theorem test_disengaged_ramp_starts_from_0 :
    let s := unit 1 .ready
    let t : State := { s with roles := { s.roles with demand := { s.roles.demand with result := 900, rampBase := 900 } } }
    figuresAfter (.disengage .whole 0) t = some (0, 0, 0) := by
  decide +kernel

theorem witness_SoftShutdownAndRelease :
    (unit 4 .ready).outputs.soft = false ∧
      (let s := running 4 .ready
       let t : State :=
         { s with
           items := { s.items with outputB := { s.items.outputB with enable := 0x40 } }
           outputs := { s.outputs with a := { s.outputs.a with source := .latched } } }
       (t.items.output .b).enable.getLsbD 6 = true ∧ (t.outputs.get .b).source = .none ∧ (t.items.output .b).entry = .immediate ∧
         (t.items.output .a).enable.getLsbD 6 = false ∧ (t.outputs.get .a).source = .latched ∧ enabledActive t .a = false) := by
  decide +kernel

/-- R204: with the defaults the ranking is SHUTDOWN, SHARE, WEAR, STEP, LINK, CAPTURE. -/
theorem test_default_ranking :
    ([.shutdown, .share, .wear, .step, .link, .capture] : List Attn).map (attnRank {}) = [0, 1, 2, 3, 4, 5] := by
  decide +kernel

/-- Two raised sources, and the higher one named. -/
theorem witness_ReadingsChangeNothing_ranking :
    let s := unit 4 .ready
    let t : State := { s with attention := { s.attention with pending := 0x28 } }
    isRaised t .step = true ∧ isRaised t .capture = true ∧ isRaised t .wear = false ∧ isRaised s .step = false := by
  decide +kernel

theorem witness_ReadingsChangeNothing :
    (unit 4 .ready).share.plan = none ∧ 15 < (16 : Byte).toNat ∧ 11 < (12 : Byte).toNat ∧
      (withSlot 11 (freshRecord .runTime) (unit 4 .ready)).wear.slots[(11 : Fin 12)] = some (freshRecord .runTime) := by
  decide +kernel

theorem witness_SnapshotAndWarningAreTaken :
    let e : WarnEntry := { source := .deficit, level := .alarm, stamp := 4 }
    let s := unit 4 .ready
    let t : State := { answeredState 18 0 .ok (some e) s with wear := { s.wear with queue := [e] } }
    s.outputs.snapshot = none ∧ s.wear.queue = [] ∧ t.wear.queue = e :: [] ∧
      t.port.select = .answered { code := 18, argument := 0, reply := .ok, answered := some e } := by
  decide +kernel

/-- A list running and a queue to rebuild, for the pending set that RESTART leaves. -/
theorem witness_RestartLeavesItsValues_pending :
    let s := withSlot 0 { freshRecord .runTime with state := .watch } (withList .exit .none 0 .ret (unit 4 .stopping))
    s.locked = true ∧ s.engine.list = some .exit ∧ rebuiltQueue s.wear.slots ≠ [] ∧ (unit 4 .ready).engine.list = none := by
  decide +kernel

theorem witness_RestartLeavesItsValues :
    (running 4 .ready).locked = true ∧ (running 4 .ready).items.autoEngage = false ∧ enabledActive (running 4 .ready) .a = false ∧
      enabledActive (running 4 .ready) .b = false ∧ (running 4 .ready).items.dutyLo ≤ (running 4 .ready).items.dutyHi ∧
      (fresh 4).locked = false := by
  decide +kernel

/-! ## Witnesses: the invariants hold of a unit in OFFLINE, and its step answers a next state -/

theorem witness_LimitsHoldThroughEveryStep : LimitsHold (unit 4 .offline) ∧ step (unit 4 .offline) = .next (tick (unit 4 .offline)) :=
  ⟨⟨by decide +kernel, by decide +kernel, by decide +kernel, by decide +kernel, by decide +kernel, by decide +kernel, by decide +kernel⟩, rfl⟩

theorem witness_OutputsHoldThroughEveryStep : OutputsHold (unit 4 .offline) ∧ step (unit 4 .offline) = .next (tick (unit 4 .offline)) :=
  ⟨⟨fun _ => by decide +kernel, fun _ => by decide +kernel, fun h => absurd h (by decide +kernel), by decide +kernel, by decide +kernel, by decide +kernel,
    by decide +kernel, by decide +kernel, by decide +kernel⟩, rfl⟩

theorem witness_PackHoldsThroughEveryStep : PackHolds (unit 3 .offline) ∧ step (unit 3 .offline) = .next (tick (unit 3 .offline)) :=
  ⟨⟨by decide +kernel, by decide +kernel, by decide +kernel, by decide +kernel⟩, rfl⟩

theorem witness_LinkHoldsThroughEveryStep : LinkHolds (unit 4 .offline) ∧ step (unit 4 .offline) = .next (tick (unit 4 .offline)) :=
  ⟨⟨by decide +kernel, by decide +kernel, by decide +kernel, by decide +kernel, by decide +kernel, by decide +kernel, by decide +kernel⟩, rfl⟩

theorem witness_ReadinessHoldsThroughEveryStep : ReadinessHolds (unit 4 .offline) ∧ step (unit 4 .offline) = .next (tick (unit 4 .offline)) :=
  ⟨⟨by decide +kernel, by decide +kernel, by decide +kernel, by decide +kernel, by decide +kernel, by decide +kernel, by decide +kernel⟩, rfl⟩

theorem witness_StoresHoldThroughEveryStep : StoresHold (unit 4 .offline) ∧ step (unit 4 .offline) = .next (tick (unit 4 .offline)) :=
  ⟨⟨by decide +kernel, by decide +kernel, by decide +kernel, by decide +kernel, by decide +kernel, by decide +kernel,
    (fun d h => by cases h), by decide +kernel, by decide +kernel⟩, rfl⟩

/-! ## The manual's worked figures -/

/-- The bus of the worked cases (section 3.11). -/
def bus (demand : Int) (bd bc f5 f6 : Nat) (soc : Int) (linkCease : Bool) : Snapshot :=
  let st (r : Role) (a b : Nat) (aux : Int) : SnapStation := { usable := true, role := r, limitA := a, limitB := b, aux }
  { demand, stale := false, tractionCease := false, linkCease
    stations := Vector.ofFn fun i =>
      match i.val with
      | 0 => st .demand 0 0 0
      | 1 => st .genset 1500 0 0
      | 2 => st .pack bd bc soc
      | 3 => st .traction 1250 900 0
      | 4 => st .traction 1100 900 0
      | 5 => st .friction f5 0 0
      | 6 => st .friction f6 0 0
      | _ => { usable := false, role := .none, limitA := 0, limitB := 0, aux := 0 }
    genset := some 1, pack := some 2 }

/-- Brake distribution 450 at station 5 and 550 at station 6. -/
def busSharing : Sharing := { distribution := Vector.ofFn fun i => if i.val = 5 then 450 else if i.val = 6 then 550 else 0 }

/-- Section 3.11: the plan signature is 4757. -/
theorem test_signature : (signatureOf busSharing).toNat = 4757 := by decide +kernel

/-- Section 3.11, Traction: 958 and 842, G_set 1500, Pb 450. -/
theorem test_plan_traction :
    let b := computePlan busSharing (bus 1800 2000 1200 1800 2000 480 false)
    (b.base, b.supply, b.gSet, b.pb) = (1800, 1950, 1500, 450) ∧ b.grants[(3 : Station)] = some 958 ∧ b.grants[(4 : Station)] = some 842 := by
  decide +kernel

/-- Section 3.11, Cold pack: 878 and 772, PACK-DISCHARGE set. -/
theorem test_plan_cold_pack :
    let b := computePlan busSharing (bus 1800 300 1200 1800 2000 480 false)
    (b.base, b.supply, b.pb) = (1650, 1800, 300) ∧ b.grants[(3 : Station)] = some 878 ∧ b.grants[(4 : Station)] = some 772 ∧
      b.flags.packDischarge = true := by
  decide +kernel

/-- Section 3.11, Braking: recovery 1350, and 113 and 137 at the brakes. -/
theorem test_plan_braking :
    let b := computePlan busSharing (bus (-1600) 2000 1200 1800 2000 480 false)
    b.rTot = 1350 ∧ b.grants[(3 : Station)] = some (-675) ∧ b.grants[(5 : Station)] = some 113 ∧ b.grants[(6 : Station)] = some 137 := by
  decide +kernel

/-- The table of the warming motor (section 4.2): the curve at 1150, 1301, 1550 and 1700. -/
theorem test_curve_of_a_warming_motor :
    ([1150, 1301, 1550, 1700] : List Int).map (curveFactor [⟨1200, 1000⟩, ⟨1400, 700⟩, ⟨1600, 0⟩]) = [1000, 849, 175, 0] := by
  decide +kernel

/-- The smoothed channel of section 5.1: 25, then 43. -/
theorem test_filter_steps :
    let c := takeConversion { shift := 2 } 100 { latest := 0, filtered := 0, seed := false }
    c.filtered = 25 ∧ (takeConversion { shift := 2 } 100 c).filtered = 43 := by
  decide +kernel

/-- R98: the raw count below ground, at it, one step above it, in the middle of the scale, just below the supply, at it and beyond. -/
theorem test_raw_counts :
    ([-200, 0, 4883, 2500000, 4999999, 5000000, 6000000] : List Int).map (fun v => (rawCount v).toNat) = [0, 0, 1, 512, 1023, 1023, 1023] := by
  decide +kernel

/-- The motor's pickup of section 5.3: 60 pulses a turn, 800 µs an edge is 1250 rpm. -/
theorem test_speed_of_a_pickup : speedOver { pulsesPerRev := 60 } 1 800 = 1250 := by decide +kernel

/-- R6 and R5: a CEASE frame of station 5 bears precedence 000101 and four payload bytes, most significant byte first. -/
theorem test_cease_frame_fields :
    (composeFrame .cease 5 (ceasePayload .link 258 3)).precedence = 0b000101 ∧ (composeFrame .cease 5 (ceasePayload .link 258 3)).length = 4 ∧
      (composeFrame .cease 5 (ceasePayload .link 258 3)).payload.tail = [1, 2, 3] := by
  decide +kernel

end Sys2Proof.Tests
end

section
/-! Whether a part is UNCONFIGURED, through every shared operation: none enters UNCONFIGURED, and those that leave it from any state (`_configured`) are asked for in a locked state or at LOCK alone (R70, R71). Each lemma `_unconfigured` is the missing line of the frame of an operation that may write the Readiness Controller. -/

namespace Sys2Proof.Machine

/-! ## Through a run over a list, the gate and the loaders -/

@[simp] theorem foldl_unconfigured {β : Type} (f : State → β → State) (l : List β) (s : State)
    (h : ∀ t b, (f t b).ready.state = .unconfigured ↔ t.ready.state = .unconfigured) :
    (l.foldl f s).ready.state = .unconfigured ↔ s.ready.state = .unconfigured :=
  iff_of_eq (foldl_keeps (fun t => t.ready.state = .unconfigured) f (fun t b => propext (h t b)) l s)
@[simp] theorem withIndex_unconfigured (n : Nat) (index : Byte) (s : State) (g : Fin n → Reply × State)
    (h : ∀ i, (g i).2.ready.state = .unconfigured ↔ s.ready.state = .unconfigured) :
    (withIndex n index s g).2.ready.state = .unconfigured ↔ s.ready.state = .unconfigured :=
  withIndex_all (fun t => t.ready.state = .unconfigured ↔ s.ready.state = .unconfigured) index s g Iff.rfl h
@[simp] theorem storeNat_unconfigured (lo hi : Nat) (v : BitVec 32) (store : Nat → State → State) (s : State)
    (h : ∀ n, (store n s).ready.state = .unconfigured ↔ s.ready.state = .unconfigured) :
    (storeNat lo hi v store s).2.ready.state = .unconfigured ↔ s.ready.state = .unconfigured := h _
@[simp] theorem storeInt_unconfigured (lo hi : Int) (v : BitVec 32) (store : Int → State → State) (s : State)
    (h : ∀ n, (store n s).ready.state = .unconfigured ↔ s.ready.state = .unconfigured) :
    (storeInt lo hi v store s).2.ready.state = .unconfigured ↔ s.ready.state = .unconfigured := h _

/-! ## Limits, wear -/

/-- A limit derivation moves readiness between READY and DERATED alone (R84). -/
@[simp] theorem deratedBy_unconfigured (factor : Nat) (r : Readiness) : deratedBy factor r = .unconfigured ↔ r = .unconfigured := by
  cases r <;> simp only [deratedBy] <;> split <;> simp
@[simp] theorem reformFactor_unconfigured (s : State) :
    (reformFactor s).ready.state = .unconfigured ↔ s.ready.state = .unconfigured := by
  unfold reformFactor; split <;> simp
@[simp] theorem setLevel_unconfigured (i : Fin 12) (l : Level) (s : State) :
    (setLevel i l s).ready.state = .unconfigured ↔ s.ready.state = .unconfigured := by
  unfold setLevel; (repeat' split) <;> simp
@[simp] theorem judgeSlot_unconfigured (i : Fin 12) (s : State) :
    (judgeSlot i s).ready.state = .unconfigured ↔ s.ready.state = .unconfigured := by
  unfold judgeSlot; split <;> simp
@[simp] theorem judgeSlots_unconfigured (pick : Fin 12 → Bool) (s : State) :
    (judgeSlots pick s).ready.state = .unconfigured ↔ s.ready.state = .unconfigured := by
  unfold judgeSlots
  exact foldl_unconfigured _ _ s fun t i => by split <;> simp
@[simp] theorem updateRecords_unconfigured (pick : WearRecord → Bool) (f : WearRecord → WearRecord) (s : State) :
    (updateRecords pick f s).ready.state = .unconfigured ↔ s.ready.state = .unconfigured := by
  unfold updateRecords; dsimp only; split <;> simp
@[simp] theorem countEvent_unconfigured (k : WearKind) (s : State) :
    (countEvent k s).ready.state = .unconfigured ↔ s.ready.state = .unconfigured := by
  unfold countEvent; split <;> simp
@[simp] theorem foldCarries_unconfigured (s : State) :
    (foldCarries s).ready.state = .unconfigured ↔ s.ready.state = .unconfigured := by
  unfold foldCarries; simp
@[simp] theorem addFigure_unconfigured (k : WearKind) (n : Nat) (s : State) :
    (addFigure k n s).ready.state = .unconfigured ↔ s.ready.state = .unconfigured := by
  unfold addFigure; simp
@[simp] theorem takeReading_unconfigured (kinds : List WearKind) (v : Int) (s : State) :
    (takeReading kinds v s).ready.state = .unconfigured ↔ s.ready.state = .unconfigured := by
  unfold takeReading; simp
@[simp] theorem judgeSoc_unconfigured (soc : Nat) (s : State) :
    (judgeSoc soc s).ready.state = .unconfigured ↔ s.ready.state = .unconfigured := by
  unfold judgeSoc; dsimp only; split <;> simp

/-! ## Readiness and the Step Engine -/

/-- A change of readiness arrives in UNCONFIGURED only if it names it (R70). -/
@[simp] theorem setReadiness_unconfigured (r : Readiness) (s : State) :
    (setReadiness r s).ready.state = .unconfigured ↔ r = .unconfigured := by
  obtain ⟨c, h⟩ := setReadiness_state r s
  rw [h, deratedBy_unconfigured]
/-- What the end of a list or a passage without one leads to is READY, STANDBY, OFFLINE or FAULTED, never UNCONFIGURED (R73). -/
@[simp] theorem entryReady_configured (s : State) : (entryReady s).ready.state ≠ .unconfigured := by
  unfold entryReady; simp
@[simp] theorem entryFailed_configured (s : State) : (entryFailed s).ready.state ≠ .unconfigured := by
  unfold entryFailed; (repeat' split) <;> simp
@[simp] theorem stopArrived_configured (s : State) : (stopArrived s).ready.state ≠ .unconfigured := by
  unfold stopArrived; split <;> simp
@[simp] theorem takeVerdict_unconfigured (name : ListName) (ok : Bool) (s : State) :
    (takeVerdict name ok s).ready.state = .unconfigured ↔ s.ready.state = .unconfigured := by
  unfold takeVerdict
  split <;> simp [*]
@[simp] theorem endList_unconfigured (fail : Option FailCause) (s : State) :
    (endList fail s).ready.state = .unconfigured ↔ s.ready.state = .unconfigured := by
  unfold endList
  split
  · rfl
  · dsimp only
    split <;> simp
@[simp] theorem goOn_unconfigured (k : Nat) (s : State) :
    (goOn k s).1.ready.state = .unconfigured ↔ s.ready.state = .unconfigured := by
  unfold goOn; split <;> simp
@[simp] theorem jumpTo_unconfigured (target : Nat) (s : State) :
    (jumpTo target s).1.ready.state = .unconfigured ↔ s.ready.state = .unconfigured := by
  unfold jumpTo; split <;> simp
@[simp] theorem carrySet_unconfigured (target : SetTarget) (s : State) :
    (carrySet target s).1.ready.state = .unconfigured ↔ s.ready.state = .unconfigured := by
  unfold carrySet; (repeat' split) <;> simp
@[simp] theorem carryOut_unconfigured (st : Step) (s : State) :
    (carryOut st s).1.ready.state = .unconfigured ↔ s.ready.state = .unconfigured := by
  unfold carryOut; (repeat' split) <;> simp
@[simp] theorem runTurn_unconfigured (n : Nat) (s : State) :
    (runTurn n s).ready.state = .unconfigured ↔ s.ready.state = .unconfigured := by
  induction n generalizing s with
  | zero => rfl
  | succ n ih =>
    unfold runTurn
    split
    · rfl
    · dsimp only
      split <;> simp [ih]
@[simp] theorem startList_unconfigured (name : ListName) (s : State) :
    (startList name s).ready.state = .unconfigured ↔ s.ready.state = .unconfigured := by
  unfold startList; split <;> simp
@[simp] theorem releaseStep_unconfigured (n : Nat) (s : State) :
    (releaseStep n s).ready.state = .unconfigured ↔ s.ready.state = .unconfigured := by
  unfold releaseStep; dsimp only; split <;> simp
@[simp] theorem stepHold_unconfigured (left : Nat) (s : State) :
    (stepHold left s).ready.state = .unconfigured ↔ s.ready.state = .unconfigured := by
  unfold stepHold; (repeat' split) <;> simp
@[simp] theorem stepPause_unconfigured (left : Nat) (s : State) :
    (stepPause left s).ready.state = .unconfigured ↔ s.ready.state = .unconfigured := by
  unfold stepPause; split <;> simp
@[simp] theorem stepWait_unconfigured (s : State) :
    (stepWait s).ready.state = .unconfigured ↔ s.ready.state = .unconfigured := by
  unfold stepWait; split <;> simp
@[simp] theorem boundaryTurn_unconfigured (s : State) :
    (boundaryTurn s).ready.state = .unconfigured ↔ s.ready.state = .unconfigured := by
  unfold boundaryTurn; dsimp only; (repeat' split) <;> simp
@[simp] theorem beginStarting_configured (s : State) : (beginStarting s).ready.state ≠ .unconfigured := by
  unfold beginStarting; dsimp only; split <;> simp
@[simp] theorem beginStopping_configured (dest : StopDest) (s : State) : (beginStopping dest s).ready.state ≠ .unconfigured := by
  unfold beginStopping; simp
@[simp] theorem doEngage_configured (s : State) : (doEngage s).ready.state ≠ .unconfigured := by
  unfold doEngage; split <;> simp
@[simp] theorem autoEngage_unconfigured (s : State) :
    (autoEngage s).ready.state = .unconfigured ↔ s.ready.state = .unconfigured := by
  unfold autoEngage
  split
  · next h => simp [h.1]
  · rfl
@[simp] theorem doDisengage_unconfigured (s : State) :
    (doDisengage s).ready.state = .unconfigured ↔ s.ready.state = .unconfigured := by
  unfold doDisengage
  split <;> simp [*]
@[simp] theorem raiseCounts_unconfigured (s : State) :
    (raiseCounts s).ready.state = .unconfigured ↔ s.ready.state = .unconfigured := by
  simp [raiseCounts]
/-- The conditions of R78 hold in STANDBY alone. -/
theorem mayStart_configured (s : State) (h : mayStart s = true) : s.ready.state ≠ .unconfigured := by
  simp_all [mayStart]
/-- The conditions of R79 hold in READY and DERATED alone. -/
theorem mustStop_configured (s : State) (h : mustStop s = true) : s.ready.state ≠ .unconfigured := by
  intro hu
  simp [mustStop, State.available, hu, isAvailable] at h
@[simp] theorem testRequest_unconfigured (s : State) :
    (testRequest s).ready.state = .unconfigured ↔ s.ready.state = .unconfigured := by
  unfold testRequest
  split
  · simp [mayStart_configured s ‹_›]
  · split
    · simp [mustStop_configured s ‹_›]
    · rfl
@[simp] theorem passWithoutList_unconfigured (s : State) :
    (passWithoutList s).ready.state = .unconfigured ↔ s.ready.state = .unconfigured := by
  unfold passWithoutList
  split
  · split <;> simp [*]
  · split <;> simp [*]
  · rfl
@[simp] theorem readinessBoundary_unconfigured (s : State) :
    (readinessBoundary s).ready.state = .unconfigured ↔ s.ready.state = .unconfigured := by
  unfold readinessBoundary; dsimp only; (repeat' split) <;> simp

/-! ## Outputs -/

/-- The latch of output A is reported in a locked state alone (R122). -/
@[simp] theorem reportLatch_unconfigured (s : State) :
    (reportLatch s).ready.state = .unconfigured ↔ s.ready.state = .unconfigured := by
  unfold reportLatch
  split
  · next h => simpa [State.locked] using h
  · rfl
@[simp] theorem tellReadiness_unconfigured (n : OutName) (entry latched : Bool) (s : State) :
    (tellReadiness n entry latched s).ready.state = .unconfigured ↔ s.ready.state = .unconfigured := by
  unfold tellReadiness; dsimp only; (repeat' split) <;> simp
@[simp] theorem shutdownEntry_unconfigured (n : OutName) (s : State) :
    (shutdownEntry n s).ready.state = .unconfigured ↔ s.ready.state = .unconfigured := by
  unfold shutdownEntry; simp
@[simp] theorem trigger_unconfigured (n : OutName) (s : State) :
    (trigger n s).ready.state = .unconfigured ↔ s.ready.state = .unconfigured := by
  unfold trigger; (repeat' split) <;> simp
@[simp] theorem triggerBoth_unconfigured (a b : Bool) (s : State) :
    (triggerBoth a b s).ready.state = .unconfigured ↔ s.ready.state = .unconfigured := by
  unfold triggerBoth
  dsimp only
  (repeat' split) <;> simp [takeOrder]
@[simp] theorem offerSource_unconfigured (k : Nat) (s : State) :
    (offerSource k s).ready.state = .unconfigured ↔ s.ready.state = .unconfigured := by
  unfold offerSource; simp
@[simp] theorem periodSource_unconfigured (n : OutName) (s : State) :
    (periodSource n s).ready.state = .unconfigured ↔ s.ready.state = .unconfigured := by
  unfold periodSource; (repeat' split) <;> simp
@[simp] theorem doPeriodEnd_unconfigured (n : OutName) (s : State) :
    (doPeriodEnd n s).ready.state = .unconfigured ↔ s.ready.state = .unconfigured := by
  unfold doPeriodEnd; dsimp only; (repeat' split) <;> simp
@[simp] theorem lineBecomesActive_unconfigured (l : Fin 4) (s : State) :
    (lineBecomesActive l s).ready.state = .unconfigured ↔ s.ready.state = .unconfigured := by
  unfold lineBecomesActive; dsimp only; split <;> simp

/-! ## Role Logic, the round boundary, measurement -/

@[simp] theorem countOnsets_unconfigured (before after : DemandRole) (s : State) :
    (countOnsets before after s).ready.state = .unconfigured ↔ s.ready.state = .unconfigured := by
  unfold countOnsets; dsimp only; (repeat' split) <;> simp
@[simp] theorem computeDemand_unconfigured (s : State) :
    (computeDemand s).ready.state = .unconfigured ↔ s.ready.state = .unconfigured := by
  unfold computeDemand; dsimp only; (repeat' split) <;> simp
@[simp] theorem setPack_unconfigured (charge : Nat) (remainder : Int) (s : State) :
    (setPack charge remainder s).ready.state = .unconfigured ↔ s.ready.state = .unconfigured := by
  unfold setPack; dsimp only; split <;> simp
@[simp] theorem loadCharge_unconfigured (charge : Nat) (s : State) :
    (loadCharge charge s).ready.state = .unconfigured ↔ s.ready.state = .unconfigured := by
  unfold loadCharge; simp
@[simp] theorem countCharge_unconfigured (s : State) :
    (countCharge s).ready.state = .unconfigured ↔ s.ready.state = .unconfigured := by
  unfold countCharge; simp
@[simp] theorem judgeStopHold_unconfigured (s : State) :
    (judgeStopHold s).ready.state = .unconfigured ↔ s.ready.state = .unconfigured := by
  unfold judgeStopHold; dsimp only; (repeat' split) <;> simp
@[simp] theorem stepLining_unconfigured (applied : Nat) (s : State) :
    (stepLining applied s).ready.state = .unconfigured ↔ s.ready.state = .unconfigured := by
  unfold stepLining; dsimp only; split <;> simp
@[simp] theorem roleBoundary_unconfigured (s : State) :
    (roleBoundary s).ready.state = .unconfigured ↔ s.ready.state = .unconfigured := by
  unfold roleBoundary; dsimp only; (repeat' split) <;> simp [takeOrder]
@[simp] theorem peerBoundary_unconfigured (s : State) :
    (peerBoundary s).ready.state = .unconfigured ↔ s.ready.state = .unconfigured := by
  unfold peerBoundary; simp
@[simp] theorem roundBoundary_unconfigured (cause : BoundaryCause) (s : State) :
    (roundBoundary cause s).ready.state = .unconfigured ↔ s.ready.state = .unconfigured := by
  unfold roundBoundary; simp
@[simp] theorem stepMonitor_unconfigured (m : Fin 2) (s : State) :
    (stepMonitor m s).ready.state = .unconfigured ↔ s.ready.state = .unconfigured := by
  unfold stepMonitor; dsimp only; (repeat' split) <;> simp
@[simp] theorem measurePack_unconfigured (s : State) :
    (measurePack s).ready.state = .unconfigured ↔ s.ready.state = .unconfigured := by
  unfold measurePack; dsimp only; split <;> simp
@[simp] theorem measureTraction_unconfigured (s : State) :
    (measureTraction s).ready.state = .unconfigured ↔ s.ready.state = .unconfigured := by
  unfold measureTraction; dsimp only; split <;> simp
@[simp] theorem measureRole_unconfigured (s : State) :
    (measureRole s).ready.state = .unconfigured ↔ s.ready.state = .unconfigured := by
  unfold measureRole; split <;> simp
@[simp] theorem measureWear_unconfigured (s : State) :
    (measureWear s).ready.state = .unconfigured ↔ s.ready.state = .unconfigured := by
  unfold measureWear; dsimp only; split <;> simp
@[simp] theorem measureCurve_unconfigured (s : State) :
    (measureCurve s).ready.state = .unconfigured ↔ s.ready.state = .unconfigured := by
  unfold measureCurve; (repeat' split) <;> simp
@[simp] theorem measure_unconfigured (s : State) :
    (measure s).ready.state = .unconfigured ↔ s.ready.state = .unconfigured := by
  unfold measure; simp

/-! ## The link and completion of a pass -/

@[simp] theorem takeState_unconfigured (i : Station) (c : StateContent) (s : State) :
    (takeState i c s).ready.state = .unconfigured ↔ s.ready.state = .unconfigured := by
  unfold takeState; dsimp only; split <;> simp
@[simp] theorem takeDemand_unconfigured (i : Station) (c : DemandContent) (s : State) :
    (takeDemand i c s).ready.state = .unconfigured ↔ s.ready.state = .unconfigured := by
  unfold takeDemand; dsimp only; (repeat' split) <;> simp
/-- A clash is reported in a locked state, and held in UNCONFIGURED (R11). -/
@[simp] theorem reportClash_unconfigured (s : State) :
    (reportClash s).ready.state = .unconfigured ↔ s.ready.state = .unconfigured := by
  unfold reportClash
  split
  · next h => simpa [State.locked] using h
  · rfl
@[simp] theorem clash_unconfigured (s : State) :
    (clash s).ready.state = .unconfigured ↔ s.ready.state = .unconfigured := by
  unfold clash; split <;> simp
@[simp] theorem completeGenset_unconfigured (p : Plan) (soc : Int) (s : State) :
    (completeGenset p soc s).ready.state = .unconfigured ↔ s.ready.state = .unconfigured := by
  unfold completeGenset; simp
@[simp] theorem completeFriction_unconfigured (p : Plan) (applied : Nat) (s : State) :
    (completeFriction p applied s).ready.state = .unconfigured ↔ s.ready.state = .unconfigured := by
  unfold completeFriction; simp
@[simp] theorem completeRole_unconfigured (p : Plan) (soc : Int) (applied : Nat) (s : State) :
    (completeRole p soc applied s).ready.state = .unconfigured ↔ s.ready.state = .unconfigured := by
  unfold completeRole; split <;> simp
@[simp] theorem complete_unconfigured (n : Snapshot) (s : State) :
    (complete n s).ready.state = .unconfigured ↔ s.ready.state = .unconfigured := by
  unfold complete; simp

/-! ## Loaders -/

@[simp] theorem loadReadiness_unconfigured (place : Nat) (index : Byte) (v : BitVec 32) (s : State) :
    (loadReadiness place index v s).2.ready.state = .unconfigured ↔ s.ready.state = .unconfigured := by
  unfold loadReadiness; (repeat' split) <;> simp
@[simp] theorem loadMask_unconfigured (n : OutName) (mask : Nat) (s : State) :
    (loadMask n mask s).ready.state = .unconfigured ↔ s.ready.state = .unconfigured := by
  unfold loadMask; dsimp only; split <;> simp
@[simp] theorem loadLevel_unconfigured (l : Fin 4) (high : Bool) (s : State) :
    (loadLevel l high s).ready.state = .unconfigured ↔ s.ready.state = .unconfigured := by
  unfold loadLevel; dsimp only; split <;> simp
@[simp] theorem loadOutputs_unconfigured (place : Nat) (index : Byte) (v : BitVec 32) (s : State) :
    (loadOutputs place index v s).2.ready.state = .unconfigured ↔ s.ready.state = .unconfigured := by
  unfold loadOutputs; (repeat' split) <;> simp
@[simp] theorem loadPackItem_unconfigured (place : Nat) (v : BitVec 32) (s : State) :
    (loadPackItem place v s).2.ready.state = .unconfigured ↔ s.ready.state = .unconfigured := by
  unfold loadPackItem; split <;> simp
@[simp] theorem loadAmbient_unconfigured (n : Int) (s : State) :
    (loadAmbient n s).ready.state = .unconfigured ↔ s.ready.state = .unconfigured := by
  unfold loadAmbient; simp
@[simp] theorem loadFrictionItem_unconfigured (place : Nat) (v : BitVec 32) (s : State) :
    (loadFrictionItem place v s).2.ready.state = .unconfigured ↔ s.ready.state = .unconfigured := by
  unfold loadFrictionItem; split <;> simp
@[simp] theorem loadRole_unconfigured (place : Nat) (v : BitVec 32) (s : State) :
    (loadRole place v s).2.ready.state = .unconfigured ↔ s.ready.state = .unconfigured := by
  unfold loadRole; split <;> simp
@[simp] theorem doLoadItem_unconfigured (item : BitVec 16) (index : Byte) (v : BitVec 32) (s : State) :
    (doLoadItem item index v s).2.ready.state = .unconfigured ↔ s.ready.state = .unconfigured := by
  unfold doLoadItem; (repeat' split) <;> simp
@[simp] theorem doRestoreWear_unconfigured (slot : Byte) (v : BitVec 32) (s : State) :
    (doRestoreWear slot v s).2.ready.state = .unconfigured ↔ s.ready.state = .unconfigured := by
  unfold doRestoreWear
  split
  · rfl
  · split
    · simp
    · refine withIndex_unconfigured _ _ _ _ fun i => ?_
      (repeat' split) <;> rfl
@[simp] theorem doRestoreWear_pins (slot : Byte) (v : BitVec 32) (s : State) : (doRestoreWear slot v s).2.pins = s.pins := by
  unfold doRestoreWear
  split
  · rfl
  · split
    · exact (setPack_frame _ _ s).1
    · refine withIndex_pins _ _ _ _ fun i => ?_
      (repeat' split) <;> rfl

/-! ## RESTART and the smaller effects -/

@[simp] theorem doShutdown_unconfigured (on : Bool) (s : State) :
    (doShutdown on s).ready.state = .unconfigured ↔ s.ready.state = .unconfigured := by
  unfold doShutdown; dsimp only; (repeat' split) <;> simp
@[simp] theorem doService_unconfigured (slot : Byte) (s : State) :
    (doService slot s).ready.state = .unconfigured ↔ s.ready.state = .unconfigured := by
  unfold doService; (repeat' split) <;> simp
@[simp] theorem doClearFault_configured (s : State) : (doClearFault s).ready.state ≠ .unconfigured := by
  unfold doClearFault; simp
@[simp] theorem restartNode_configured (s : State) : (restartNode s).ready.state ≠ .unconfigured := by
  simp [restartNode, restartTriggers, restartWear, restartReadiness]

end Sys2Proof.Machine
end

section
/-! What a command other than a reset and LOCK keeps: the straps (R1), and whether the part is UNCONFIGURED (R70, R71). -/

namespace Sys2Proof.Machine

/-- The straps stand, and the part is UNCONFIGURED after if and only if it was before. -/
structure KeepsStrapsAndLock (s t : State) : Prop where
  straps : t.pins.straps = s.pins.straps
  unconfigured : t.ready.state = .unconfigured ↔ s.ready.state = .unconfigured

theorem KeepsStrapsAndLock.locked {s t : State} (h : KeepsStrapsAndLock s t) : t.locked = s.locked := by
  simp [State.locked, h.unconfigured]

theorem KeepsStrapsAndLock.refl (s : State) : KeepsStrapsAndLock s s := ⟨rfl, Iff.rfl⟩

theorem KeepsStrapsAndLock.trans {s t u : State} (h : KeepsStrapsAndLock s t) (h' : KeepsStrapsAndLock t u) :
    KeepsStrapsAndLock s u :=
  ⟨h'.straps.trans h.straps, h'.unconfigured.trans h.unconfigured⟩

/-- An outcome keeps them if the next state it answers does. -/
def NextKeeps (s : State) (o : Host.Outcome State Fault Refusal) : Prop := ∀ t, o = .next t → KeepsStrapsAndLock s t

theorem nextKeeps_next {s t : State} (h : KeepsStrapsAndLock s t) : NextKeeps s (.next t) := by
  rintro _ ⟨⟩
  exact h

theorem withInputs_keeps (inputs : BitVec 4) (s : State) : KeepsStrapsAndLock s (withInputs inputs s) := ⟨rfl, Iff.rfl⟩

/-- A command that first samples the discrete inputs keeps what the rest of it keeps. -/
theorem keeps_of_withInputs {inputs : BitVec 4} {s t : State} (h : KeepsStrapsAndLock (withInputs inputs s) t) :
    KeepsStrapsAndLock s t :=
  (withInputs_keeps inputs s).trans h

/-- A command that does nothing where its condition fails keeps them if what it does where the condition holds keeps them. -/
theorem nextKeeps_ite {c : Prop} [Decidable c] {s t : State} (h : c → KeepsStrapsAndLock s t) :
    NextKeeps s (.next (if c then t else s)) := by
  refine nextKeeps_next ?_
  split
  · exact h ‹_›
  · exact .refl s

/-- The same for a command that first samples the discrete inputs. -/
theorem nextKeeps_inputs_ite {c : Prop} [Decidable c] {inputs : BitVec 4} {s t : State}
    (h : c → KeepsStrapsAndLock (withInputs inputs s) t) :
    NextKeeps s (.next (if c then t else withInputs inputs s)) := by
  refine nextKeeps_next (keeps_of_withInputs (inputs := inputs) ?_)
  split
  · exact h ‹_›
  · exact .refl _

/-! ## The local port -/

/-- The deselect of a request keeps every property that the port has no part in and that the request's effect keeps where it is carried out (R196, R197). -/
theorem deselect_all (P : State → Prop) (q : Request) (s : State) (hport : ∀ t p, P t → P { t with port := p })
    (heffect : ∀ e t p, P t → isRefusal (q.judge t) = false → P (q.effect e { t with port := p })) (h : P s) :
    P (deselect q s) := by
  have hfinish (e : Exchange) : P (finish q e s) := by
    rcases finish_cases q e s with ⟨_, hf⟩ | ⟨_, _, hf⟩ | ⟨_, _, _, hf⟩ | ⟨_, _, hq, hf⟩ <;> rw [hf]
    · exact hport _ _ h
    · exact hport _ _ h
    · exact hport _ _ h
    · exact heffect e s _ h hq
  unfold deselect
  split
  · exact hport _ _ h
  · exact hport _ _ h
  · exact hport _ _ h
  · split
    · exact hfinish _
    · exact hport _ _ h

/-- Any part of an exchange keeps every property that the port has no part in and that the request's effect keeps where it is carried out (R196, R197). -/
theorem runRequest_all (P : State → Prop) (m : Moment) (q : Request) (s : State) (hport : ∀ t p, P t → P { t with port := p })
    (heffect : ∀ e t p, P t → isRefusal (q.judge t) = false → P (q.effect e { t with port := p })) (h : P s) :
    P (runRequest m q s) := by
  cases m with
  | whole => exact deselect_all P q (answerPoint q s) hport heffect (hport s _ h)
  | select => exact hport s _ h
  | answer =>
    change P (reachAnswer q s)
    rcases reachAnswer_cases q s with ⟨_, hr⟩ | ⟨_, hr⟩ <;> rw [hr]
    · exact hport s _ h
    · exact h
  | deselect => exact deselect_all P q s hport heffect h

/-- A request whose effect, where it is carried out, keeps the straps and whether the part is UNCONFIGURED. -/
def Request.KeepsLock (q : Request) : Prop :=
  ∀ e t p, isRefusal (q.judge t) = false → KeepsStrapsAndLock t (q.effect e { t with port := p })

theorem runRequest_keeps {q : Request} (hq : q.KeepsLock) (m : Moment) (s : State) : KeepsStrapsAndLock s (runRequest m q s) :=
  runRequest_all (KeepsStrapsAndLock s) m q s (fun _ _ h => h.trans ⟨rfl, Iff.rfl⟩)
    (fun e t p h hok => h.trans (hq e t p hok)) (.refl s)

theorem reading_keepsLock (code argument : Nat) (judge : State → Reply) (answer : State → List Byte) :
    (reading code argument judge answer).KeepsLock := fun _ _ _ _ => ⟨rfl, Iff.rfl⟩

/-- A loader that keeps them in every state is a request that keeps them. -/
theorem loading_keepsLock {f : State → Reply × State} (hf : ∀ t, KeepsStrapsAndLock t (f t).2) (code argument : Nat) :
    (loading code argument f).KeepsLock := fun _ t p _ =>
  KeepsStrapsAndLock.trans (t := { t with port := p }) ⟨rfl, Iff.rfl⟩ (hf _)

/-- An effect that keeps them in every state is that of a request that keeps them. -/
theorem acting_keepsLock {effect : State → State} (hf : ∀ t, KeepsStrapsAndLock t (effect t)) (code argument : Nat)
    (judge : State → Reply) : (acting code argument judge effect).KeepsLock := fun _ t p _ =>
  KeepsStrapsAndLock.trans (t := { t with port := p }) ⟨rfl, Iff.rfl⟩ (hf _)

/-- A request that is refused in UNCONFIGURED and whose effect leaves the part configured keeps it configured. -/
theorem acting_keepsLock_of_configured {judge : State → Reply} {effect : State → State}
    (hpins : ∀ t, (effect t).pins = t.pins) (hstate : ∀ t, (effect t).ready.state ≠ .unconfigured)
    (hjudge : ∀ t, t.ready.state = .unconfigured → isRefusal (judge t) = true) (code argument : Nat) :
    (acting code argument judge effect).KeepsLock := fun _ t p hok => by
  have ht : t.ready.state ≠ .unconfigured := fun hu => by
    have hno : isRefusal (judge t) = false := hok
    simp [hjudge t hu] at hno
  exact ⟨congrArg Pins.straps (hpins { t with port := p }), iff_of_false (hstate _) ht⟩

theorem engageRequest_keepsLock : engageRequest.KeepsLock :=
  acting_keepsLock_of_configured (fun t => (doEngage_frame t).1) doEngage_configured
    (fun t hu => by simp [engageReply, hu, isRefusal]) _ _

theorem clearFaultRequest_keepsLock : clearFaultRequest.KeepsLock :=
  acting_keepsLock_of_configured (fun t => (doClearFault_frame t).1) doClearFault_configured
    (fun t hu => by simp [clearFaultReply, hu, isRefusal]) _ _

theorem restartRequest_keepsLock : restartRequest.KeepsLock :=
  acting_keepsLock_of_configured (fun t => (restartNode_frame t).1) restartNode_configured
    (fun t hu => by simp [restartReply, State.locked, hu, isRefusal]) _ _

/-! ## The commands -/

/-- A command of the local port other than LOCK keeps the straps and whether the part is UNCONFIGURED, whatever part of its exchange it stands for. -/
theorem port_keeps {q : Request} (hq : q.KeepsLock) (m : Moment) (s : State) : NextKeeps s (.next (runRequest m q s)) :=
  nextKeeps_next (runRequest_keeps hq m s)

theorem execUnknownCommand_keeps (m : Moment) (code : Byte) (s : State) : NextKeeps s (execUnknownCommand m code s) := by
  unfold execUnknownCommand
  split
  · exact nextKeeps_next (.refl s)
  · exact port_keeps (acting_keepsLock .refl _ _ _) m s

theorem execCeaseFrameReceived_keeps (f : Frame) (s : State) : NextKeeps s (execCeaseFrameReceived f s) := by
  unfold execCeaseFrameReceived
  split <;> exact nextKeeps_next ⟨by simp, by simp⟩

theorem execDemandFrameReceived_keeps (f : Frame) (inputs : BitVec 4) (s : State) :
    NextKeeps s (execDemandFrameReceived f inputs s) := by
  unfold execDemandFrameReceived
  split
  · exact nextKeeps_next (keeps_of_withInputs (inputs := inputs) ⟨by simp, by simp⟩)
  · exact nextKeeps_next (.refl s)

theorem execStateFrameReceived_keeps (f : Frame) (s : State) : NextKeeps s (execStateFrameReceived f s) := by
  unfold execStateFrameReceived
  split <;> exact nextKeeps_next ⟨by simp, by simp⟩

theorem execWarnFrameReceived_keeps (f : Frame) (s : State) : NextKeeps s (execWarnFrameReceived f s) := by
  unfold execWarnFrameReceived
  split <;> exact nextKeeps_next ⟨by simp, by simp⟩

theorem execTransmissionSuccess_keeps (s : State) : NextKeeps s (execTransmissionSuccess s) := by
  unfold execTransmissionSuccess
  split <;> exact nextKeeps_next ⟨by simp, by simp⟩

theorem execTransmissionFailure_keeps (s : State) : NextKeeps s (execTransmissionFailure s) := by
  unfold execTransmissionFailure
  split <;> exact nextKeeps_next ⟨by simp, by simp⟩

theorem execShareCompletion_keeps (inputs : BitVec 4) (s : State) : NextKeeps s (execShareCompletion inputs s) := by
  unfold execShareCompletion
  split
  · exact nextKeeps_next (.refl s)
  · exact nextKeeps_next (keeps_of_withInputs (inputs := inputs) ⟨by simp, by simp⟩)

/-- A conversion writes the level of its analogue input, and no strap (R98). -/
theorem execConversion_keeps (position : Fin 8) (level : Int) (s : State) : NextKeeps s (execConversion position level s) := by
  unfold execConversion
  split <;> exact nextKeeps_next ⟨rfl, Iff.rfl⟩

theorem execBoundaryTimerExpiry_keeps (inputs : BitVec 4) (s : State) : NextKeeps s (execBoundaryTimerExpiry inputs s) := by
  refine nextKeeps_next (keeps_of_withInputs (inputs := inputs) ?_)
  split
  · exact ⟨rfl, Iff.rfl⟩
  · exact ⟨by simp, by simp⟩

theorem execStateEmission_keeps (s : State) : NextKeeps s (execStateEmission s) := by
  refine nextKeeps_next ?_
  split
  · exact ⟨rfl, Iff.rfl⟩
  · split <;> exact ⟨by simp, by simp⟩

theorem execRisingEdge_keeps (channel : CapName) (s : State) : NextKeeps s (execRisingEdge channel s) := by
  refine nextKeeps_next ?_
  split <;> exact ⟨by simp, by simp⟩

theorem execZeroSpeedExpiry_keeps (channel : CapName) (s : State) : NextKeeps s (execZeroSpeedExpiry channel s) := by
  refine nextKeeps_next ?_
  (repeat' split) <;> exact ⟨rfl, Iff.rfl⟩

theorem execAbsenceTimerExpiry_keeps (s : State) : NextKeeps s (execAbsenceTimerExpiry s) := by
  refine nextKeeps_next ?_
  (repeat' split) <;> exact ⟨rfl, Iff.rfl⟩

/-- A change of a shutdown line writes its level, and no strap (R118). -/
theorem withLine_keeps (line : Fin 4) (level : Bool) (s : State) : KeepsStrapsAndLock s (withLine line level s) := ⟨rfl, Iff.rfl⟩

theorem execShutdownLineChange_keeps (line : Fin 4) (level : Bool) (s : State) :
    NextKeeps s (execShutdownLineChange line level s) := by
  refine nextKeeps_next ((withLine_keeps line level s).trans ?_)
  split <;> exact ⟨by simp, by simp⟩

/-- LOCK, whichever part of its exchange the command stands for: the one command that may leave UNCONFIGURED (R71). -/
def isLock : Instr → Bool
  | .lock _ _ => true
  | _ => false

/-- No command but a reset and LOCK changes a strap, or takes a part into UNCONFIGURED or out of it (R1, R70, R71). -/
theorem exec_keeps {c : Instr} (hreset : isReset c = false) (hlock : isLock c = false) (s : State) : NextKeeps s (exec c s) := by
  cases c with
  | powerOnReset straps lines inputs => nomatch hreset
  | resetPin straps lines inputs => nomatch hreset
  | lock m inputs => nomatch hlock
  | ceaseFrameReceived f => exact execCeaseFrameReceived_keeps f s
  | demandFrameReceived f inputs => exact execDemandFrameReceived_keeps f inputs s
  | stateFrameReceived f => exact execStateFrameReceived_keeps f s
  | warnFrameReceived f => exact execWarnFrameReceived_keeps f s
  | frameDiscarded f => exact nextKeeps_ite fun _ => ⟨by simp, by simp⟩
  | stationClash f => exact nextKeeps_ite fun _ => ⟨by simp, by simp⟩
  | transmissionStart rival => exact nextKeeps_ite fun _ => ⟨by simp, by simp⟩
  | transmissionSuccess => exact execTransmissionSuccess_keeps s
  | transmissionFailure => exact execTransmissionFailure_keeps s
  | holdOffExpiry => exact nextKeeps_next ⟨rfl, Iff.rfl⟩
  | ceaseRemainderExpiry => exact nextKeeps_ite fun _ => ⟨by simp, by simp⟩
  | probeCountExpiry => exact nextKeeps_ite fun _ => ⟨by simp, by simp⟩
  | boundaryTimerExpiry inputs => exact execBoundaryTimerExpiry_keeps inputs s
  | stateEmission => exact execStateEmission_keeps s
  | recordForget station => exact nextKeeps_ite fun _ => ⟨by simp, by simp⟩
  | ceaseWindowClose kind => exact nextKeeps_ite fun _ => ⟨by simp, by simp⟩
  | shareCompletion inputs => exact execShareCompletion_keeps inputs s
  | warnRefresh => exact nextKeeps_ite fun _ => ⟨by simp, by simp⟩
  | listBudgetExpiry => exact nextKeeps_ite fun _ => ⟨by simp, by simp⟩
  | holdTimeout inputs => exact nextKeeps_inputs_ite fun _ => ⟨by simp, by simp⟩
  | pauseEnd inputs => exact nextKeeps_inputs_ite fun _ => ⟨by simp, by simp⟩
  | pulseEnd line => exact nextKeeps_ite fun _ => ⟨by simp, by simp⟩
  | noEntryListReady => exact nextKeeps_ite fun _ => ⟨by simp, by simp⟩
  | noExitListStop => exact nextKeeps_ite fun _ => ⟨by simp, by simp⟩
  | gensetStart inputs => exact nextKeeps_inputs_ite fun h => ⟨by simp, by simpa using mayStart_configured _ h⟩
  | gensetStop inputs => exact nextKeeps_inputs_ite fun h => ⟨by simp, by simpa using mustStop_configured _ h⟩
  | conversion position level => exact execConversion_keeps position level s
  | measurementEvent => exact nextKeeps_next ⟨by simp, by simp⟩
  | risingEdge channel => exact execRisingEdge_keeps channel s
  | demodulationEdge rising => exact nextKeeps_ite fun _ => ⟨rfl, Iff.rfl⟩
  | zeroSpeedExpiry channel => exact execZeroSpeedExpiry_keeps channel s
  | absenceTimerExpiry => exact execAbsenceTimerExpiry_keeps s
  | periodEnd output => exact nextKeeps_next ⟨by simp, by simp⟩
  | shutdownLineChange line level => exact execShutdownLineChange_keeps line level s
  | shortExchange => exact nextKeeps_next ⟨by simp, by simp⟩
  | unknownCommand m code => exact execUnknownCommand_keeps m code s
  | loadItem m item index value => exact port_keeps (loading_keepsLock (fun t => ⟨by simp, by simp⟩) _ _) m s
  | loadStep m index kind operands => exact port_keeps (loading_keepsLock (fun t => ⟨by simp, by simp⟩) _ _) m s
  | restoreWear m slot value => exact port_keeps (loading_keepsLock (fun t => ⟨by simp, by simp⟩) _ _) m s
  | engage m inputs => exact nextKeeps_next (keeps_of_withInputs (runRequest_keeps engageRequest_keepsLock m _))
  | disengage m inputs =>
    exact nextKeeps_next
      (keeps_of_withInputs (runRequest_keeps (acting_keepsLock (fun t => ⟨by simp, by simp⟩) _ _ _) m _))
  | clearFault m => exact port_keeps clearFaultRequest_keepsLock m s
  | shutdown m on => exact port_keeps (acting_keepsLock (fun t => ⟨by simp, by simp⟩) _ _ _) m s
  | releaseOutput m output => exact port_keeps (acting_keepsLock (fun t => ⟨by simp, by simp⟩) _ _ _) m s
  | setZone m on => exact port_keeps (acting_keepsLock (fun t => ⟨by simp, by simp⟩) _ _ _) m s
  | setCharge m charge => exact port_keeps (acting_keepsLock (fun t => ⟨by simp, by simp⟩) _ _ _) m s
  | serviceReset m slot => exact port_keeps (acting_keepsLock (fun t => ⟨by simp, by simp⟩) _ _ _) m s
  | readPeer m station => exact port_keeps (reading_keepsLock _ _ _ _) m s
  | readShare m => exact port_keeps (reading_keepsLock _ _ _ _) m s
  | readWear m slot => exact port_keeps (reading_keepsLock _ _ _ _) m s
  | readStatus m => exact port_keeps (reading_keepsLock _ _ _ _) m s
  | readSnapshot m => exact port_keeps (fun _ _ _ _ => ⟨rfl, Iff.rfl⟩) m s
  | nextWarning m => exact port_keeps (fun _ _ _ _ => ⟨rfl, Iff.rfl⟩) m s
  | readAttention m => exact port_keeps (reading_keepsLock _ _ _ _) m s
  | setEnable m mask => exact port_keeps (acting_keepsLock (fun t => ⟨by simp, by simp⟩) _ _ _) m s
  | clearEnable m mask => exact port_keeps (acting_keepsLock (fun t => ⟨by simp, by simp⟩) _ _ _) m s
  | setPending m mask => exact port_keeps (acting_keepsLock (fun t => ⟨by simp, by simp⟩) _ _ _) m s
  | clearPending m mask => exact port_keeps (acting_keepsLock (fun t => ⟨by simp, by simp⟩) _ _ _) m s
  | master m on => exact port_keeps (acting_keepsLock (fun t => ⟨by simp, by simp⟩) _ _ _) m s
  | restart m inputs => exact nextKeeps_next (keeps_of_withInputs (runRequest_keeps restartRequest_keepsLock m _))
  | lineIdle => exact nextKeeps_next ⟨rfl, Iff.rfl⟩

/-- A microsecond passes by the straps and by readiness. -/
theorem tick_keeps (s : State) : KeepsStrapsAndLock s (tick s) := ⟨rfl, Iff.rfl⟩

/-! ## LOCK and the roles -/

theorem execLock_straps (m : Moment) (inputs : BitVec 4) (s t : State) (h : execLock m inputs s = .next t) :
    t.pins.straps = s.pins.straps := by
  injection h with h
  rw [← h, runRequest_pins m lockRequest _ fun _ t => (acceptLock_frame t).1]
  rfl

/-- No command but a reset changes a strap (R1). -/
theorem exec_straps {c : Instr} {s t : State} (hreset : isReset c = false) (h : exec c s = .next t) :
    t.pins.straps = s.pins.straps := by
  cases hlock : isLock c with
  | false => exact (exec_keeps hreset hlock s t h).straps
  | true =>
    cases c <;> cases hlock
    exact execLock_straps _ _ s t h

/-- An unlocked part of no role refuses LOCK with ROLE (R1, R200). -/
theorem lockReply_of_no_role (s : State) (hrole : s.role = .none) (hunlocked : s.locked = false) : lockReply s = .role := by
  simp [lockReply, hrole, hunlocked]

/-- LOCK is never carried out at a part of no role, so it stays UNCONFIGURED through any part of the exchange (R1). -/
theorem execLock_stays_unlocked (m : Moment) (inputs : BitVec 4) (s t : State) (hrole : s.role = .none)
    (hunlocked : s.locked = false) (h : execLock m inputs s = .next t) : t.locked = false := by
  injection h with h
  rw [← h]
  refine (runRequest_all (fun u => u.role = .none ∧ u.locked = false) m lockRequest (withInputs inputs s)
    (fun _ _ hu => hu) (fun e u p hu hok => ?_) ⟨hrole, hunlocked⟩).2
  have hno : isRefusal (lockReply u) = false := hok
  rw [lockReply_of_no_role u hu.1 hu.2] at hno
  cases hno

/-- A part of no role that is UNCONFIGURED stays so under every command but a reset (R1). -/
theorem exec_stays_unlocked {c : Instr} {s t : State} (hrole : s.role = .none) (hunlocked : s.locked = false)
    (hreset : isReset c = false) (h : exec c s = .next t) : t.locked = false := by
  cases hlock : isLock c with
  | false => exact (exec_keeps hreset hlock s t h).locked.trans hunlocked
  | true =>
    cases c <;> cases hlock
    exact execLock_stays_unlocked _ _ s t hrole hunlocked h

/-- A whole exchange whose command is refused at its answer point ends with that refusal as its outcome, and nothing else (R196, R197). -/
theorem runRequest_whole_of_refused (q : Request) (s : State) (h : isRefusal (q.judge s) = true) :
    runRequest .whole q s = settle (q.judge s) false (answerPoint q s) := by
  simp [runRequest, deselect, answerPoint, exchangeOf, finish, h]

/-- The role is the one that the role code strapped at the pins names (R1). -/
theorem role_of_straps (s : State) {code : BitVec 3} (h : s.pins.straps.role = code) :
    s.role = Role.ofCode (code.zeroExtend 4) := by
  simp [State.role, roleCode, h]

/-- Settles O4: a reset samples the straps, every other command and the tick keep them, the role follows from them alone, and the ROLE check of LOCK holds a part of no role in UNCONFIGURED. -/
theorem strapsAreReadAtResetOnly : Obligations.StrapsAreReadAtResetOnly := by
  refine ⟨fun straps lines inputs s => ⟨⟨_, rfl, rfl⟩, ⟨_, rfl, rfl⟩⟩, fun c s t => exec_straps, fun s t hq h => ?_,
    fun s => ⟨role_of_straps s, role_of_straps s, role_of_straps s, role_of_straps s, role_of_straps s, ?_⟩,
    fun c s t => exec_stays_unlocked, fun inputs s hrole hunlocked => ⟨_, rfl, ?_⟩⟩
  · have hstep : step s = .next (tick s) := by simp [step, hq]
    rw [hstep] at h
    injection h with h
    exact h ▸ (tick_keeps s).straps
  · rintro (h | h | h) <;> exact role_of_straps s h
  · have hreply := lockReply_of_no_role (withInputs inputs s) hrole hunlocked
    have hrefused : isRefusal (lockRequest.judge (withInputs inputs s)) = true := congrArg isRefusal hreply
    rw [runRequest_whole_of_refused lockRequest _ hrefused]
    exact congrArg some hreply

end Sys2Proof.Machine
end

section
/-! Conversions: the transfer of an input, the filter, and what a conversion makes of its channel (R97 to R99). -/

namespace Sys2Proof.Machine

/-! ## The transfer of an input (R98) -/

/-- The raw count is the level's step of 1024 between ground and the supply, held at the two ends (R98). -/
theorem rawCount_toNat (level : Int) : ((rawCount level).toNat : Int) = bring 0 1023 (level * 1024 / 5000000) := by
  have hlow := bring_low (lo := 0) (hi := 1023) (x := level * 1024 / 5000000) (by decide)
  have hhigh := bring_high (lo := 0) (hi := 1023) (x := level * 1024 / 5000000) (by decide)
  simp only [rawCount, Config.countSteps, Config.supplyLevel, BitVec.toNat_ofNat]
  omega

theorem rawCount_of_nonpos {level : Int} (h : level ≤ 0) : rawCount level = 0#10 := by
  apply BitVec.eq_of_toNat_eq
  have hcount := rawCount_toNat level
  unfold bring at hcount
  simp only [BitVec.toNat_ofNat]
  omega

theorem rawCount_of_supply {level : Int} (h : 5000000 ≤ level) : rawCount level = 1023#10 := by
  apply BitVec.eq_of_toNat_eq
  have hcount := rawCount_toNat level
  unfold bring at hcount
  simp only [BitVec.toNat_ofNat]
  omega

/-- Between ground and the supply a level lies in the step its raw count names, the lower end included (R98). -/
theorem rawCount_between {level : Int} (h0 : 0 ≤ level) (h1 : level < 5000000) :
    (rawCount level).toNat * 5000000 ≤ level * 1024 ∧ level * 1024 < ((rawCount level).toNat + 1) * 5000000 := by
  rw [rawCount_toNat, bring_inside (by omega) (by omega)]
  omega

/-! ## The filter (R99) -/

/-- A filter that stands below the value it steps toward does not step past it (R99). -/
theorem filterStep_le {f v : Int} (h : f ≤ v) (d : Int) : f + (v - f).tdiv d ≤ v := by
  have hstep : (v - f).tdiv d ≤ v - f := Int.tdiv_le_self d (by omega)
  omega

/-- A filter that stands above the value it steps toward does not step past it (R99). -/
theorem le_filterStep {f v : Int} (h : v ≤ f) (d : Int) : v ≤ f + (v - f).tdiv d := by
  have hstep : (f - v).tdiv d ≤ f - v := Int.tdiv_le_self d (by omega)
  have hneg : (v - f).tdiv d = -(f - v).tdiv d := by rw [← Int.neg_tdiv, Int.neg_sub]
  omega

/-- A channel that is still to be seeded takes the value itself, any other steps toward it and never past it (R99). -/
theorem takeConversion_filtered (k : ChannelItems) (v : Int) (c : Channel) :
    (c.seed = true → (takeConversion k v c).filtered = v) ∧
    (c.seed = false → (takeConversion k v c).filtered = c.filtered + (v - c.filtered).tdiv (2 ^ k.shift)) ∧
    (c.filtered ≤ v → (takeConversion k v c).filtered ≤ v) ∧
    (v ≤ c.filtered → v ≤ (takeConversion k v c).filtered) := by
  cases h : c.seed
  · simp only [takeConversion, h]
    exact ⟨by simp, by simp, fun hle => filterStep_le hle _, fun hle => le_filterStep hle _⟩
  · simp [takeConversion, h]

/-! ## A conversion (R97 to R99) -/

/-- A conversion puts the channel it converts where its raw count and its filter take it. -/
theorem convert_channel (c : Fin 4) (level : Int) (s : State) :
    (convert c level s).wheel.channels[c] =
      takeConversion s.items.channels[c] (scaled s.items.channels[c] (rawCount level)) s.wheel.channels[c] :=
  alter_same _ c _

theorem convert_other {c d : Fin 4} (h : d ≠ c) (level : Int) (s : State) :
    (convert c level s).wheel.channels[d] = s.wheel.channels[d] :=
  alter_other _ _ h

/-- The wheel moves on without touching a channel (R97). -/
theorem nextPosition_channels (p : Fin 8) (s : State) : (nextPosition p s).wheel.channels = s.wheel.channels := rfl

theorem execConversion_idle {position : Fin 8} {s : State} (h : s.wheel.map[position] = none) (level : Int) :
    execConversion position level s = .next (nextPosition position s) := by
  simp only [execConversion, h]

theorem execConversion_channel {position : Fin 8} {c : Fin 4} {s : State} (h : s.wheel.map[position] = some c) (level : Int) :
    execConversion position level s = .next (nextPosition position (convert c level s)) := by
  simp only [execConversion, h]

/-- Settles O34: the transfer of R98, then one conversion through the channel it converts and the others it leaves. -/
theorem conversionScalesAndFilters : Obligations.ConversionScalesAndFilters := by
  refine ⟨fun level => ⟨rawCount_of_nonpos, rawCount_of_supply, rawCount_between⟩, fun position level s =>
    ⟨fun hidle => execConversion_idle hidle level, fun c hmap =>
      ⟨nextPosition position (convert c level s), execConversion_channel hmap level, ?_⟩⟩⟩
  obtain ⟨hseed, hstep, hbelow, habove⟩ := takeConversion_filtered s.items.channels[c]
    (scaled s.items.channels[c] (rawCount level)) s.wheel.channels[c]
  simp only [nextPosition_channels, convert_channel]
  exact ⟨rfl, rfl, hseed, hstep, hbelow, habove, fun d hd => convert_other hd level s, rfl, rfl⟩

end Sys2Proof.Machine
end

section
/-! Edges, captures and demodulation: what each edge and each expiry makes of its channel (R104, R105, R108, R110, R111). -/

namespace Sys2Proof.Machine

/-! ## Captures (R104, R105, R108) -/

/-- A capture that finds room joins the FIFO and leaves the overflow mark (R105). -/
theorem takeCapture_room {k : CaptureItems} {now : Micros} {c : Capture} (h : c.fifo.length < 4) :
    takeCapture k now c =
      { c with
        edges := 0, fifo := c.fifo ++ [now], timer := some (k.timeoutMs * 1000)
        struck := c.struck || decide (c.timer = some 0) } := by
  have hroom : ¬ Config.fifoDepth ≤ c.fifo.length := Nat.not_le.mpr h
  simp [takeCapture, zeroSpeedWait, strikes, hroom]

/-- A capture that finds the FIFO full is discarded and sets the overflow mark (R105). -/
theorem takeCapture_full {k : CaptureItems} {now : Micros} {c : Capture} (h : 4 ≤ c.fifo.length) :
    takeCapture k now c =
      { c with
        edges := 0, overflow := true, timer := some (k.timeoutMs * 1000)
        struck := c.struck || decide (c.timer = some 0) } := by
  have hfull : Config.fifoDepth ≤ c.fifo.length := h
  simp [takeCapture, zeroSpeedWait, strikes, hfull]

/-- An edge that does not complete a capture is counted (R104). -/
theorem takeEdge_counted {n : CapName} {s : State}
    (h : (s.capture.get n).edges + 1 < edgesPerCapture (s.items.capture n).mode) :
    takeEdge n s =
      { s with capture := s.capture.put n { s.capture.get n with edges := (s.capture.get n).edges + 1 } } := by
  simp only [takeEdge, if_pos h]

/-- An edge that completes a capture offers it to the FIFO, and CAPTURE attention is raised where the FIFO is full (R104, R105). -/
theorem takeEdge_capture {n : CapName} {s : State}
    (h : edgesPerCapture (s.items.capture n).mode ≤ (s.capture.get n).edges + 1) :
    takeEdge n s =
      raiseIf (decide (Config.fifoDepth ≤ (s.capture.get n).fifo.length)) .capture
        { s with capture := s.capture.put n (takeCapture (s.items.capture n) s.capture.micros (s.capture.get n)) } := by
  simp only [takeEdge, if_neg (Nat.not_lt.mpr h)]

theorem takeEdge_room {n : CapName} {s : State}
    (h : edgesPerCapture (s.items.capture n).mode ≤ (s.capture.get n).edges + 1) (hroom : (s.capture.get n).fifo.length < 4) :
    takeEdge n s =
      { s with capture := s.capture.put n (takeCapture (s.items.capture n) s.capture.micros (s.capture.get n)) } := by
  rw [takeEdge_capture h, decide_eq_false (show ¬ Config.fifoDepth ≤ _ from Nat.not_le.mpr hroom), raiseIf_false]

theorem takeEdge_full {n : CapName} {s : State}
    (h : edgesPerCapture (s.items.capture n).mode ≤ (s.capture.get n).edges + 1) (hfull : 4 ≤ (s.capture.get n).fifo.length) :
    takeEdge n s =
      raise .capture
        { s with capture := s.capture.put n (takeCapture (s.items.capture n) s.capture.micros (s.capture.get n)) } := by
  rw [takeEdge_capture h, decide_eq_true (show Config.fifoDepth ≤ _ from hfull), raiseIf_true]

/-- An edge touches its own channel and, where a capture is discarded, the attention (R104, R105). -/
theorem takeEdge_touches (n : CapName) (s : State) :
    takeEdge n s =
      { s with capture := s.capture.put n ((takeEdge n s).capture.get n), attention := (takeEdge n s).attention } := by
  rcases Nat.lt_or_ge ((s.capture.get n).edges + 1) (edgesPerCapture (s.items.capture n).mode) with h | h
  · rw [takeEdge_counted h, capture_get_put]
  · rw [takeEdge_capture h, raiseIf_capture, capture_get_put]
    rfl

theorem execRisingEdge_of_mode {n : CapName} {s : State} (h : (s.items.capture n).mode ≠ .demodulate) :
    execRisingEdge n s = .next (takeEdge n s) := by
  rw [execRisingEdge, if_neg h]

/-! ## The zero-speed timer (R108) -/

/-- An expiry that a capture has struck out takes its mark away and nothing else. -/
theorem execZeroSpeedExpiry_struck {n : CapName} {s : State} (h : (s.capture.get n).struck = true) :
    execZeroSpeedExpiry n s = .next { s with capture := s.capture.put n { s.capture.get n with struck := false } } := by
  rw [execZeroSpeedExpiry, if_pos h]

/-- An expiry that comes sets the speed to 0 and drops the reference (R108). -/
theorem execZeroSpeedExpiry_due {n : CapName} {k : Nat} {s : State} (ht : (s.capture.get n).timer = some k)
    (h : (s.capture.get n).struck = false) :
    execZeroSpeedExpiry n s =
      .next { s with capture := s.capture.put n { s.capture.get n with speed := 0, reference := none, timer := none } } := by
  rw [execZeroSpeedExpiry, if_neg (by simp [h]), if_pos (by simp [ht])]
  rfl

/-! ## Demodulation (R110, R111) -/

/-- A rising edge that ends a complete period of more than 0 µs forms the duty and clears the absent mark (R110, R111). -/
theorem risingDemod_formed {now r h : Micros} {d : Demod} (hr : d.rising = some r) (hh : d.high = some h) (hne : now ≠ r)
    (wait : Nat) :
    (risingDemod now wait d).duty = min 1000 (h.toNat * 1000 / (now - r).toNat) ∧ (risingDemod now wait d).absent = false := by
  simp [risingDemod, hr, hh, hne]

/-- A rising edge that ends no complete period, or one of 0 µs, keeps the duty and the absent mark (R110). -/
theorem risingDemod_kept {now : Micros} {d : Demod} (h : d.rising = none ∨ d.high = none ∨ d.rising = some now) (wait : Nat) :
    (risingDemod now wait d).duty = d.duty ∧ (risingDemod now wait d).absent = d.absent := by
  rcases h with hnone | hnone | hnow
  · simp [risingDemod, hnone]
  · cases hr : d.rising <;> simp [risingDemod, hnone, hr]
  · cases hh : d.high <;> simp [risingDemod, hnow, hh]

/-- A falling edge takes the time since the rising edge, if there was one, as the high time (R110). -/
theorem fallingEdge_high (now : Micros) (wait : Nat) (d : Demod) :
    (∀ r, d.rising = some r → (fallingEdge now wait d).high = some (now - r)) ∧
    (d.rising = none → (fallingEdge now wait d).high = d.high) := by
  refine ⟨fun r hr => ?_, fun hr => ?_⟩ <;> simp [fallingEdge, hr]

theorem execDemodulationEdge_of_mode {s : State} (h : s.items.capture1.mode = .demodulate) (rising : Bool) :
    execDemodulationEdge rising s =
      .next
        { s with
          capture :=
            { s.capture with
              demod :=
                if rising then risingDemod s.capture.micros (absenceWait s) s.capture.demod
                else fallingEdge s.capture.micros (absenceWait s) s.capture.demod } } := by
  rw [execDemodulationEdge, if_pos h]

/-- An expiry that an edge has struck out takes its mark away and nothing else. -/
theorem execAbsenceTimerExpiry_struck {s : State} (h : s.capture.demod.struck = true) :
    execAbsenceTimerExpiry s =
      .next { s with capture := { s.capture with demod := { s.capture.demod with struck := false } } } := by
  rw [execAbsenceTimerExpiry, if_pos h]

/-- An expiry that comes sets the absent mark, keeps the duty and waits for a new rising edge (R111). -/
theorem execAbsenceTimerExpiry_due {k : Nat} {s : State} (ht : s.capture.demod.timer = some k)
    (h : s.capture.demod.struck = false) :
    execAbsenceTimerExpiry s =
      .next
        { s with
          capture :=
            { s.capture with
              demod := { s.capture.demod with rising := none, high := none, absent := true, timer := none } } } := by
  rw [execAbsenceTimerExpiry, if_neg (by simp [h]), if_pos (by simp [ht])]
  rfl

/-! ## The statement -/

/-- Settles O37: an edge by whether it completes a capture and whether the FIFO has room, an edge in DEMODULATE by its direction, an expiry by whether it was struck out. -/
theorem edgesFormSpeedAndDuty : Obligations.EdgesFormSpeedAndDuty := by
  refine ⟨fun n s => ⟨fun hmode => ⟨takeEdge n s, execRisingEdge_of_mode hmode, fun hcount => ?counted, fun hcap hroom => ?room,
      fun hcap hfull => ?full, takeEdge_touches n s⟩, execZeroSpeedExpiry_struck, fun k => execZeroSpeedExpiry_due⟩,
    fun s hmode => ⟨⟨_, execDemodulationEdge_of_mode hmode true, rfl, rfl, rfl, rfl, rfl,
        fun r h hr hh hne => risingDemod_formed hr hh hne _, fun h => risingDemod_kept h _⟩,
      ⟨_, execDemodulationEdge_of_mode hmode false, rfl, fallingEdge_high _ _ _⟩,
      execAbsenceTimerExpiry_struck, fun k => execAbsenceTimerExpiry_due⟩⟩
  case counted =>
    rw [takeEdge_counted hcount]
    exact ⟨capture_get_put .., rfl⟩
  case room =>
    rw [takeEdge_room hcap hroom]
    exact ⟨(capture_get_put ..).trans (takeCapture_room hroom), rfl⟩
  case full =>
    rw [takeEdge_full hcap hfull]
    exact ⟨(capture_get_put ..).trans (takeCapture_full hfull), rfl⟩

end Sys2Proof.Machine
end

section
/-! What survives the work that a measurement event may set off besides its own figures - a monitor's trip, a wear judgement, a limit derivation: the link state, step memory, the roles' own figures, and the kind and value of every wear record. -/

namespace Sys2Proof.Machine

/-! ## The backbone -/

/-- The kind and the value of a wear record. -/
def kindAndValue (r : WearRecord) : WearKind × Int := (r.kind, r.value)

/-- The roles' state but for what a change of readiness or of a limit forms anew: the demand result and ramp base, the applied grant and its torque command, the applied brake power (R77). -/
def bareRoles (r : Roles) : Roles :=
  { r with
    demand := { r.demand with result := 0, rampBase := 0 }
    traction := { r.traction with applied := 0, torque := 0 }
    friction := { r.friction with applied := 0 } }

/-- The figures that a measurement event forms for a STATE frame or a wear record stand alike. -/
structure SameFigures (x y : Roles) : Prop where
  demandAux : x.demand.aux = y.demand.aux
  genset : x.genset = y.genset
  tractionAux : x.traction.aux = y.traction.aux
  tractionActual : x.traction.actual = y.traction.actual
  thickness : x.friction.thickness = y.friction.thickness
  thicknessAbsent : x.friction.thicknessAbsent = y.friction.thicknessAbsent

theorem sameFigures_of_bareRoles {x y : Roles} (h : bareRoles x = bareRoles y) : SameFigures x y where
  demandAux := congrArg (·.demand.aux) h
  genset := congrArg (·.genset) h
  tractionAux := congrArg (·.traction.aux) h
  tractionActual := congrArg (·.traction.actual) h
  thickness := congrArg (·.friction.thickness) h
  thicknessAbsent := congrArg (·.friction.thicknessAbsent) h

/-- What no trip, judgement or derivation touches: the link state, step memory, the roles' own figures, and the kind and value of the record in each wear slot. -/
structure Backbone where
  link : LinkState
  memory : Vector Step 64
  roles : Roles
  readings : Fin 12 → Option (WearKind × Int)

/-- The backbone of a state. -/
def backbone (s : State) : Backbone :=
  { link := s.link.state, memory := s.engine.memory, roles := bareRoles s.roles
    readings := fun i => (s.wear.slots[i]).map kindAndValue }

theorem backbone_link (s : State) : (backbone s).link = s.link.state := rfl
theorem backbone_memory (s : State) : (backbone s).memory = s.engine.memory := rfl
theorem backbone_roles (s : State) : (backbone s).roles = bareRoles s.roles := rfl
theorem backbone_readings (s : State) (i : Fin 12) : (backbone s).readings i = (s.wear.slots[i]).map kindAndValue := rfl

/-- Records changed in neither kind nor value leave the backbone. -/
theorem kindAndValue_mapRecords {f : WearRecord → WearRecord} (hf : ∀ r, kindAndValue (f r) = kindAndValue r)
    (v : Vector (Option WearRecord) 12) :
    (fun i : Fin 12 => ((mapRecords f v)[i]).map kindAndValue) = fun i : Fin 12 => (v[i]).map kindAndValue := by
  funext i
  simp only [mapRecords_get, Option.map_map, Function.comp_def, hf]

@[simp] theorem ite_backbone (c : Prop) [Decidable c] (a b : State) :
    backbone (if c then a else b) = if c then backbone a else backbone b := apply_ite backbone c a b

/-! ## Limits and outputs -/

@[simp] theorem writeA_backbone (d : Int) (s : State) : backbone (writeA d s) = backbone s := rfl
@[simp] theorem raise_backbone (a : Attn) (s : State) : backbone (raise a s) = backbone s := rfl
@[simp] theorem onOutput_backbone (n : OutName) (f : Output → Output) (s : State) :
    backbone (onOutput n f s) = backbone s := rfl
@[simp] theorem freezeSnapshot_backbone (n : OutName) (s : State) : backbone (freezeSnapshot n s) = backbone s := rfl
@[simp] theorem beginHolding_backbone (s : State) : backbone (beginHolding s) = backbone s := rfl
@[simp] theorem withLimits_backbone (s : State) : backbone (withLimits s) = backbone s := rfl
@[simp] theorem withReadiness_backbone (r : Readiness) (s : State) : backbone (withReadiness r s) = backbone s := by
  rcases restDemand_cases r s with ⟨_, _, h⟩ | ⟨_, h⟩ <;> simp [backbone, bareRoles, h]
@[simp] theorem writeFriction_backbone (s : State) : backbone (writeFriction s) = backbone s := rfl
@[simp] theorem formBrake_backbone (s : State) : backbone (formBrake s) = backbone s := by
  unfold formBrake
  simp only [ite_backbone, writeA_backbone, ite_self]
  rfl
@[simp] theorem formBrakeHere_backbone (s : State) : backbone (formBrakeHere s) = backbone s := by
  unfold formBrakeHere; simp
@[simp] theorem deriveLimits_backbone (s : State) : backbone (deriveLimits s) = backbone s := by
  unfold deriveLimits; simp

/-! ## Wear -/

@[simp] theorem closeSegment_backbone (s : State) : backbone (closeSegment s) = backbone s := by
  unfold closeSegment
  cases h : s.wear.segment with
  | none => rfl
  | some opened => simp only [backbone]; rw [kindAndValue_mapRecords]; exact fun r => rfl
@[simp] theorem refreshGates_backbone (judge : Bool) (s : State) : backbone (refreshGates judge s) = backbone s := by
  have hclose : backbone (if gatesChange s judge = true then closeSegment s else s) = backbone s := by simp
  rw [← hclose]
  unfold refreshGates
  simp only [backbone]
  rw [kindAndValue_mapRecords]
  exact fun r => rfl
/-- A placement fills a slot of the outbox and moves no link state (R14). -/
@[simp] theorem place_backbone (k : FrameKind) (p : List Byte) (s : State) : backbone (place k p s) = backbone s := by
  rcases place_cases k p s with ⟨_, h⟩ | ⟨_, h⟩ <;> rw [h]
  rfl
@[simp] theorem placeWarn_backbone (s : State) : backbone (placeWarn s) = backbone s := place_backbone _ _ _
@[simp] theorem sourceChanged_backbone (src : Source) (l : Level) (s : State) :
    backbone (sourceChanged src l s) = backbone s := by
  unfold sourceChanged
  simp only [ite_backbone, placeWarn_backbone]
  exact ite_self _
@[simp] theorem reformFactor_backbone (s : State) : backbone (reformFactor s) = backbone s := by
  unfold reformFactor
  simp only [ite_backbone, deriveLimits_backbone]
  exact ite_self _
/-- A record's state and stamp are no part of its reading (R180). -/
@[simp] theorem setLevel_backbone (i : Fin 12) (l : Level) (s : State) : backbone (setLevel i l s) = backbone s := by
  unfold setLevel
  split
  · rfl
  · rename_i r hr
    simp only [ite_backbone, reformFactor_backbone, sourceChanged_backbone]
    split
    · rfl
    · simp only [backbone, Backbone.mk.injEq, true_and]
      funext j
      rw [alter_get]
      split
      · subst j; rw [hr]; rfl
      · rfl
@[simp] theorem judgeSlot_backbone (i : Fin 12) (s : State) : backbone (judgeSlot i s) = backbone s := by
  unfold judgeSlot; split <;> simp
@[simp] theorem judgeSlots_backbone (pick : Fin 12 → Bool) (s : State) : backbone (judgeSlots pick s) = backbone s :=
  foldl_keeps backbone _ (fun t i => by simp) _ s

/-- Updated records stand as the update leaves them: their judgement changes no kind and no value (R186, R187). -/
theorem updateRecords_backbone (pick : WearRecord → Bool) (f : WearRecord → WearRecord) (s : State) :
    backbone (updateRecords pick f s) =
      { backbone s with readings := fun i => (s.wear.slots[i]).map fun r => kindAndValue (if pick r then f r else r) } := by
  unfold updateRecords
  simp only [ite_backbone, judgeSlots_backbone, ite_self]
  simp only [backbone, mapRecords_get, Option.map_map, Function.comp_def]

/-! ## Readiness and shutdown -/

@[simp] theorem formTorque_backbone (s : State) : backbone (formTorque s) = backbone s := rfl
@[simp] theorem formGrant_backbone (s : State) : backbone (formGrant s) = backbone s := by
  unfold formGrant; rw [formTorque_backbone, refreshGates_backbone]; rfl
@[simp] theorem formGrantHere_backbone (s : State) : backbone (formGrantHere s) = backbone s := by
  unfold formGrantHere; simp
@[simp] theorem setReadiness_backbone (r : Readiness) (s : State) : backbone (setReadiness r s) = backbone s :=
  gated_keeps backbone (fun _ => rfl) _ s (by simp)
@[simp] theorem abandonList_backbone (s : State) : backbone (abandonList s) = backbone s := by
  unfold abandonList; split <;> rfl
@[simp] theorem enterFaulted_backbone (add : Causes → Causes) (s : State) : backbone (enterFaulted add s) = backbone s := by
  have hlist : ∀ t : State, backbone { abandonList t with ready := { (abandonList t).ready with stopDest := .offline } } = backbone t :=
    abandonList_backbone
  unfold enterFaulted
  simp only [ite_backbone, beginHolding_backbone, setReadiness_backbone, hlist]
  exact ite_self _
@[simp] theorem reportLatch_backbone (s : State) : backbone (reportLatch s) = backbone s := by
  unfold reportLatch; simp
@[simp] theorem tellReadiness_backbone (n : OutName) (entry latched : Bool) (s : State) :
    backbone (tellReadiness n entry latched s) = backbone s := by
  unfold tellReadiness; split <;> simp
@[simp] theorem shutdownEntry_backbone (n : OutName) (s : State) : backbone (shutdownEntry n s) = backbone s := by
  unfold shutdownEntry; simp
@[simp] theorem trigger_backbone (n : OutName) (s : State) : backbone (trigger n s) = backbone s := by
  unfold trigger; (repeat' split) <;> simp
/-- The order of two triggers is no part of the backbone, nor is the count of the orders taken. -/
@[simp] theorem triggerBoth_backbone (a b : Bool) (s : State) : backbone (triggerBoth a b s) = backbone s := by
  have horder : backbone (takeOrder s).2 = backbone s := rfl
  unfold triggerBoth
  simp [horder]
@[simp] theorem offerSource_backbone (k : Nat) (s : State) : backbone (offerSource k s) = backbone s :=
  triggerBoth_backbone _ _ s

end Sys2Proof.Machine
end

section
/-! The measurement event: the captures it evaluates, the monitors it judges, the figures it forms and the readings it takes (R97, R100, R101, R106, R142, R148, R166, R178, R185). -/

namespace Sys2Proof.Machine

/-! ## Captures (R106) -/

/-- An evaluation that has a reference takes every timestamp's edges over the time since it (R106). -/
theorem evaluatedSpeed_since_reference {k : CaptureItems} {c : Capture} {z r : Micros} (hov : c.overflow = false)
    (hlast : c.fifo.getLast? = some z) (href : c.reference = some r) :
    evaluatedSpeed k c = speedOver k (c.fifo.length * edgesPerCapture k.mode) (z - r).toNat := by
  cases hf : c.fifo with
  | nil => simp [hf] at hlast
  | cons oldest rest =>
    have hz : (oldest :: rest).getLast (by simp) = z := by
      rw [hf, List.getLast?_eq_some_getLast (by simp)] at hlast
      exact Option.some.inj hlast
    simp [evaluatedSpeed, hov, hf, href, hz]

/-- An evaluation without a reference takes the edges after the oldest timestamp over the time since that one (R106). -/
theorem evaluatedSpeed_since_oldest {k : CaptureItems} {c : Capture} {x z : Micros} (hov : c.overflow = false)
    (hlen : 2 ≤ c.fifo.length) (hhead : c.fifo.head? = some x) (hlast : c.fifo.getLast? = some z) (href : c.reference = none) :
    evaluatedSpeed k c = speedOver k ((c.fifo.length - 1) * edgesPerCapture k.mode) (z - x).toNat := by
  match hf : c.fifo with
  | [] => simp [hf] at hlen
  | [_] => simp [hf] at hlen
  | oldest :: next :: rest =>
    have hx : oldest = x := by simpa [hf] using hhead
    have hz : (next :: rest).getLast (by simp) = z := by
      rw [hf, List.getLast?_cons_cons, List.getLast?_eq_some_getLast (by simp)] at hlast
      exact Option.some.inj hlast
    simp [evaluatedSpeed, hov, hf, href, hx, hz]

/-- An evaluation after an overflow, of an empty FIFO, or of one timestamp without a reference leaves the speed (R106). -/
theorem evaluatedSpeed_kept {k : CaptureItems} {c : Capture}
    (h : c.overflow = true ∨ c.fifo = [] ∨ (∃ x, c.fifo = [x]) ∧ c.reference = none) : evaluatedSpeed k c = c.speed := by
  rcases h with hov | hf | ⟨⟨x, hf⟩, href⟩
  · simp [evaluatedSpeed, hov]
  · simp [evaluatedSpeed, hf]
  · simp [evaluatedSpeed, hf, href]

/-- The newest timestamp becomes the reference (R106). -/
theorem evaluated_reference {k : CaptureItems} {c : Capture} {x : Micros} (h : c.fifo.getLast? = some x) :
    (evaluated k c).reference = some x := by
  simp [evaluated, h]

theorem evaluated_empty {k : CaptureItems} {c : Capture} (h : c.fifo = []) :
    (evaluated k c).reference = c.reference ∧ (evaluated k c).speed = c.speed :=
  ⟨by simp [evaluated, h], evaluatedSpeed_kept (.inr (.inl h))⟩

/-- A channel as a measurement event leaves it: evaluated, unless it is in DEMODULATE (R106). -/
def captureAfter (s : State) (n : CapName) : Capture :=
  if (s.items.capture n).mode = .demodulate then s.capture.get n else evaluated (s.items.capture n) (s.capture.get n)

theorem evaluateChannel_get (n : CapName) (s : State) : (evaluateChannel n s).capture.get n = captureAfter s n := by
  unfold evaluateChannel captureAfter
  split <;> simp

theorem evaluateChannel_get_other {n m : CapName} (h : m ≠ n) (s : State) :
    (evaluateChannel n s).capture.get m = s.capture.get m := by
  unfold evaluateChannel
  dsimp only
  split
  · rfl
  · exact capture_get_put_other _ _ h

theorem evaluateChannel_unit (n : CapName) (s : State) :
    (evaluateChannel n s).capture.demod = s.capture.demod ∧ (evaluateChannel n s).capture.micros = s.capture.micros := by
  unfold evaluateChannel
  dsimp only
  split <;> simp

/-! ## Window monitors (R101, R102) -/

/-- A monitor as a measurement event leaves it (R101). -/
def monitorAfter (s : State) (m : Fin 2) : Monitor :=
  match s.items.monitors[m].channel with
  | none => s.wheel.monitors[m]
  | some c => judgeMonitor s.items.monitors[m] (s.filtered c) s.wheel.monitors[m]

/-- A monitor runs while its value stands on the other side of its window than its state says (R101). -/
theorem judgeMonitor_eq (k : MonitorItems) (v : Int) (m : Monitor) :
    judgeMonitor k v m =
      if m.tripped = decide (k.low ≤ v ∧ v ≤ k.high) then
        (if k.count ≤ m.run + 1 then { tripped := !m.tripped, run := 0 } else { m with run := m.run + 1 })
      else { m with run := 0 } := by
  simp only [judgeMonitor, Bool.decide_and, eq_comm]

/-- A monitor's part of a measurement event touches, of the wheel, that monitor alone (R101, R102). -/
theorem stepMonitor_wheel (m : Fin 2) (s : State) :
    (stepMonitor m s).wheel = { s.wheel with monitors := alter s.wheel.monitors m fun _ => monitorAfter s m } := by
  unfold stepMonitor monitorAfter
  cases s.items.monitors[m].channel with
  | none =>
    have hsame : alter s.wheel.monitors m (fun _ => s.wheel.monitors[m]) = s.wheel.monitors :=
      vector_ext fun j => by
        rw [alter_get]
        split
        · subst j; rfl
        · rfl
    simp only [hsame]
  | some c => simp

theorem monitorAfter_stepMonitor_other {m n : Fin 2} (h : n ≠ m) (s : State) :
    monitorAfter (stepMonitor m s) n = monitorAfter s n := by
  simp only [monitorAfter, stepMonitor_frame, State.filtered, stepMonitor_wheel, alter_other _ _ h]

@[simp] theorem stepMonitor_backbone (m : Fin 2) (s : State) : backbone (stepMonitor m s) = backbone s := by
  unfold stepMonitor
  split
  · rfl
  · simp only [ite_backbone, offerSource_backbone]
    exact ite_self _

/-! ## The captures and the monitors together -/

/-- The state at which a measurement event forms the role's figures: captures evaluated, monitors judged (R100). -/
def sampled (s : State) : State := stepMonitor 1 (stepMonitor 0 (evaluateChannel .c1 (evaluateChannel .c0 s)))

theorem sampled_items (s : State) : (sampled s).items = s.items := by
  simp only [sampled, stepMonitor_frame, evaluateChannel_frame]

theorem sampled_role (s : State) : (sampled s).role = s.role := by
  simp only [State.role, sampled, stepMonitor_frame, evaluateChannel_frame]

theorem sampled_backbone (s : State) : backbone (sampled s) = backbone s := by
  simp only [sampled, stepMonitor_backbone]
  rfl

theorem sampled_capture (s : State) (n : CapName) : (sampled s).capture.get n = captureAfter s n := by
  simp only [sampled, stepMonitor_frame]
  cases n with
  | c0 => rw [evaluateChannel_get_other (by decide), evaluateChannel_get]
  | c1 =>
    rw [evaluateChannel_get, captureAfter, captureAfter, evaluateChannel_get_other (by decide)]
    simp

theorem sampled_captureUnit (s : State) :
    (sampled s).capture.demod = s.capture.demod ∧ (sampled s).capture.micros = s.capture.micros := by
  simp [sampled, evaluateChannel_unit]

theorem sampled_channels (s : State) : (sampled s).wheel.channels = s.wheel.channels := by
  simp [sampled, stepMonitor_wheel]

theorem sampled_filtered (s : State) (c : Fin 4) : (sampled s).filtered c = s.filtered c := by
  simp only [State.filtered, sampled_channels]

theorem sampled_monitors (s : State) (m : Fin 2) : (sampled s).wheel.monitors[m] = monitorAfter s m := by
  have hbefore : ∀ n : Fin 2, monitorAfter (evaluateChannel .c1 (evaluateChannel .c0 s)) n = monitorAfter s n := fun n => by
    simp only [monitorAfter, evaluateChannel_frame, State.filtered]
  simp only [sampled, stepMonitor_wheel]
  match m with
  | 0 => rw [alter_other _ _ (by decide), alter_same, hbefore]
  | 1 => rw [alter_same, monitorAfter_stepMonitor_other (by decide), hbefore]

/-! ## The role's figures (R142, R148, R166, R178) -/

theorem measureRole_demand {s : State} (h : s.role = .demand) : measureRole s = measureDemand s := by
  simp only [measureRole, h]

theorem measureRole_genset {s : State} (h : s.role = .genset) : measureRole s = measureGenset s := by
  simp only [measureRole, h]

theorem measureRole_traction {s : State} (h : s.role = .traction) : measureRole s = measureTraction s := by
  simp only [measureRole, h]

theorem measureRole_friction {s : State} (h : s.role = .friction) : measureRole s = formThickness s := by
  simp only [measureRole, h]

/-- A TRACTION node's figures; the limits and the torque command a new speed forms are no part of the backbone (R166, R167, R169). -/
theorem measureTraction_backbone (s : State) :
    backbone (measureTraction s) =
      backbone
        { s with
          roles :=
            { s.roles with
              traction :=
                { s.roles.traction with actual := measuredPower (s.filtered 3) (s.filtered 0), aux := s.speed .c0 } } } := by
  simp only [measureTraction, ite_backbone, formTorque_backbone, deriveLimits_backbone, ite_self]

theorem measureDemand_figures (s : State) : (measureDemand s).roles.demand.aux = s.speed .c0 := rfl

theorem measureGenset_figures (s : State) :
    (measureGenset s).roles.genset =
      { s.roles.genset with actual := measuredPower (s.filtered 3) (s.filtered 0), aux := s.speed .c0 } := rfl

theorem measureTraction_figures (s : State) :
    (measureTraction s).roles.traction.aux = s.speed .c0 ∧
      (measureTraction s).roles.traction.actual = measuredPower (s.filtered 3) (s.filtered 0) := by
  have h := sameFigures_of_bareRoles (congrArg Backbone.roles (measureTraction_backbone s))
  exact ⟨h.tractionAux, h.tractionActual⟩

theorem formThickness_figures (s : State) :
    (formThickness s).roles.friction.thicknessAbsent = s.capture.demod.absent ∧
      (formThickness s).roles.friction.thickness =
        if s.capture.demod.absent then s.roles.friction.thickness
        else thicknessOf s.items.friction s.capture.demod.duty :=
  ⟨rfl, rfl⟩

/-! ## The pack's count beside the link and the kinds of the records (R156, R182, R184) -/

/-- The link state and the kind each wear slot holds. -/
def linkAndKinds (b : Backbone) : LinkState × (Fin 12 → Option WearKind) := (b.link, fun i => (b.readings i).map Prod.fst)

theorem linkAndKinds_link (b : Backbone) : (linkAndKinds b).1 = b.link := rfl
theorem linkAndKinds_kind (b : Backbone) (i : Fin 12) : (linkAndKinds b).2 i = (b.readings i).map Prod.fst := rfl

/-- Records updated within their kinds. -/
theorem updateRecords_linkAndKinds (pick : WearRecord → Bool) {f : WearRecord → WearRecord} (hf : ∀ r, (f r).kind = r.kind)
    (s : State) : linkAndKinds (backbone (updateRecords pick f s)) = linkAndKinds (backbone s) := by
  have hpick : ∀ r, (if pick r then f r else r).kind = r.kind := fun r => by split <;> simp [hf]
  rw [updateRecords_backbone]
  simp only [linkAndKinds, backbone, Option.map_map, Function.comp_def, kindAndValue, hpick]

theorem countEvent_linkAndKinds (k : WearKind) (s : State) :
    linkAndKinds (backbone (countEvent k s)) = linkAndKinds (backbone s) := by
  unfold countEvent
  split
  · apply updateRecords_linkAndKinds
    intro r
    rfl
  · rfl

theorem judgeSoc_linkAndKinds (soc : Nat) (s : State) :
    linkAndKinds (backbone (judgeSoc soc s)) = linkAndKinds (backbone s) := by
  unfold judgeSoc
  dsimp only
  split
  · exact countEvent_linkAndKinds _ _
  · rfl

theorem setPack_linkAndKinds (charge : Nat) (remainder : Int) (s : State) :
    linkAndKinds (backbone (setPack charge remainder s)) = linkAndKinds (backbone s) := by
  unfold setPack
  dsimp only
  split
  · rfl
  · rw [judgeSoc_linkAndKinds, deriveLimits_backbone]
    rfl

theorem addFigure_linkAndKinds (k : WearKind) (n : Nat) (s : State) :
    linkAndKinds (backbone (addFigure k n s)) = linkAndKinds (backbone s) := by
  have hkind : ∀ r : WearRecord, (if r.kind = k then foldCarry 1000 { r with carry := r.carry + n } else r).kind = r.kind :=
    fun r => by split <;> rfl
  simp only [addFigure, judgeSlots_backbone]
  simp only [linkAndKinds, backbone, mapRecords_get, Option.map_map, Function.comp_def, kindAndValue, hkind]

theorem countCharge_linkAndKinds (s : State) : linkAndKinds (backbone (countCharge s)) = linkAndKinds (backbone s) := by
  rw [countCharge, addFigure_linkAndKinds, setPack_linkAndKinds]

theorem measurePack_linkAndKinds (s : State) : linkAndKinds (backbone (measurePack s)) = linkAndKinds (backbone s) := by
  unfold measurePack
  dsimp only
  split
  · rw [countCharge_linkAndKinds]
    rfl
  · rfl

/-- The figures of no role touch the link state or the kind of a wear record. -/
theorem measureRole_linkAndKinds (s : State) : linkAndKinds (backbone (measureRole s)) = linkAndKinds (backbone s) := by
  unfold measureRole
  cases s.role with
  | none => rfl
  | demand => rfl
  | genset => rfl
  | pack => exact measurePack_linkAndKinds s
  | traction =>
    dsimp only
    rw [measureTraction_backbone]
    rfl
  | friction => rfl

/-! ## The temperature readings (R185) -/

/-- A reading taken stands in every record of its kinds and in no other (R185). -/
theorem takeReading_backbone (kinds : List WearKind) (v : Int) (s : State) :
    backbone (takeReading kinds v s) =
      { backbone s with
        readings := fun i => ((backbone s).readings i).map fun p => (p.1, if kinds.contains p.1 then v else p.2) } := by
  have hreading : ∀ r : WearRecord,
      kindAndValue (if kinds.contains r.kind then { r with value := v } else r) =
        (r.kind, if kinds.contains r.kind then v else r.value) := fun r => by split <;> rfl
  rw [takeReading, updateRecords_backbone]
  refine congrArg (fun readings => { backbone s with readings }) (funext fun i => ?_)
  rw [backbone_readings, Option.map_map]
  exact congrArg (Option.map · _) (funext hreading)

/-- The Wear Unit's part of a measurement event touches the values of the records alone (R185). -/
theorem measureWear_kept (s : State) :
    bareRoles (measureWear s).roles = bareRoles s.roles ∧
      linkAndKinds (backbone (measureWear s)) = linkAndKinds (backbone s) := by
  have hroles : (backbone (measureWear s)).roles = (backbone s).roles := by
    simp only [measureWear, ite_backbone, takeReading_backbone, refreshGates_backbone]
    split <;> rfl
  refine ⟨hroles, ?_⟩
  simp only [measureWear, ite_backbone, takeReading_backbone, refreshGates_backbone]
  split <;> simp only [linkAndKinds, Option.map_map, Function.comp_def]

/-- A temperature record's value is the filtered value of channel 1 (R185); the lining thickness is another kind's reading. -/
theorem measureWear_temperature {s : State} {i : Fin 12} {k : WearKind} {x : Int}
    (hk : k = .coolantTemp ∨ k = .packTemp ∨ k = .motorTemp) (h : (backbone s).readings i = some (k, x)) :
    (backbone (measureWear s)).readings i = some (k, s.filtered 1) := by
  have htemp : [WearKind.coolantTemp, .packTemp, .motorTemp].contains k = true := by
    rcases hk with rfl | rfl | rfl <;> rfl
  have hlining : [WearKind.liningThickness].contains k = false := by
    rcases hk with rfl | rfl | rfl <;> rfl
  simp only [measureWear, ite_backbone, takeReading_backbone, refreshGates_backbone]
  split <;> simp only [h, Option.map_some, htemp, hlining, if_true, Bool.false_eq_true, if_false]

@[simp] theorem measureCurve_backbone (s : State) : backbone (measureCurve s) = backbone s := by
  unfold measureCurve
  split
  · rfl
  · simp only [ite_backbone, deriveLimits_backbone]
    exact ite_self _

/-! ## The measurement event (R97, R100) -/

/-- A new turn of the wheel begun under the map as it is loaded (R97, R113). -/
def newTurn (s : State) : State := { s with wheel := { s.wheel with position := 0, map := s.items.map } }

/-- After the captures and the monitors a measurement event forms the figures, takes the readings, judges the curve input and begins a new turn of the wheel (R97, R100). -/
theorem measure_eq (s : State) : measure s = newTurn (measureCurve (measureWear (measureRole (sampled s)))) := by
  simp only [measure, newTurn, sampled]

theorem newTurn_capture (s : State) : (newTurn s).capture = s.capture := rfl
theorem newTurn_engine (s : State) : (newTurn s).engine = s.engine := rfl
theorem newTurn_wheel (s : State) : (newTurn s).wheel = { s.wheel with position := 0, map := s.items.map } := rfl
theorem newTurn_backbone (s : State) : backbone (newTurn s) = backbone s := rfl

theorem measure_capture (s : State) : (measure s).capture = (sampled s).capture := by
  simp only [measure_eq, newTurn_capture, measureCurve_frame, measureWear_frame, measureRole_frame]

theorem measure_wheel (s : State) : (measure s).wheel = { (sampled s).wheel with position := 0, map := s.items.map } := by
  simp only [measure_eq, newTurn_wheel, measureCurve_frame, measureWear_frame, measureRole_frame, sampled_items]

theorem measure_speed (s : State) : (measure s).speed .c0 = (sampled s).speed .c0 := by
  simp only [State.speed, measure_capture]

theorem measure_memory (s : State) : (measure s).engine.memory = s.engine.memory := by
  have hengine : (measure s).engine = (sampled s).engine := by
    simp only [measure_eq, newTurn_engine, measureCurve_frame, measureWear_frame, measureRole_frame]
  rw [hengine, ← backbone_memory, sampled_backbone, backbone_memory]

/-- The curve input and the new turn touch nothing of the backbone. -/
theorem measure_backbone (s : State) : backbone (measure s) = backbone (measureWear (measureRole (sampled s))) := by
  rw [measure_eq, newTurn_backbone, measureCurve_backbone]

theorem measure_linkState (s : State) : (measure s).link.state = s.link.state := by
  have h : linkAndKinds (backbone (measure s)) = linkAndKinds (backbone s) := by
    rw [measure_backbone, (measureWear_kept _).2, measureRole_linkAndKinds, sampled_backbone]
  rw [← backbone_link, ← linkAndKinds_link, h, linkAndKinds_link, backbone_link]

/-- The figures the role has formed stand to the end of the event. -/
theorem measure_figures (s : State) : SameFigures (measure s).roles (measureRole (sampled s)).roles := by
  apply sameFigures_of_bareRoles
  rw [← backbone_roles, measure_backbone, backbone_roles, (measureWear_kept _).1]

theorem measure_demand {s : State} (h : s.role = .demand) : (measure s).roles.demand.aux = (measure s).speed .c0 := by
  rw [(measure_figures s).demandAux, measureRole_demand ((sampled_role s).trans h), measureDemand_figures, measure_speed]

theorem measure_genset {s : State} (h : s.role = .genset) :
    (measure s).roles.genset.aux = (measure s).speed .c0 ∧
      (measure s).roles.genset.actual = bring (-6000) 6000 ((s.filtered 3 * s.filtered 0).tdiv 10000) := by
  rw [(measure_figures s).genset, measureRole_genset ((sampled_role s).trans h), measureGenset_figures, measure_speed,
    sampled_filtered, sampled_filtered]
  exact ⟨rfl, rfl⟩

theorem measure_traction {s : State} (h : s.role = .traction) :
    (measure s).roles.traction.aux = (measure s).speed .c0 ∧
      (measure s).roles.traction.actual = bring (-6000) 6000 ((s.filtered 3 * s.filtered 0).tdiv 10000) := by
  obtain ⟨haux, hactual⟩ := measureTraction_figures (sampled s)
  rw [(measure_figures s).tractionAux, (measure_figures s).tractionActual, measureRole_traction ((sampled_role s).trans h),
    haux, hactual, measure_speed, sampled_filtered, sampled_filtered]
  exact ⟨rfl, rfl⟩

/-- The thickness is formed from the duty and absent mark that the event finds (R178). -/
theorem measure_friction {s : State} (h : s.role = .friction) :
    (measure s).roles.friction.thicknessAbsent = s.capture.demod.absent ∧
      (measure s).roles.friction.thickness =
        if s.capture.demod.absent then s.roles.friction.thickness
        else
          s.items.friction.thickness0 +
            (((s.items.friction.thickness1000 : Int) - s.items.friction.thickness0) * s.capture.demod.duty).tdiv 1000 := by
  have hbefore : (sampled s).roles.friction.thickness = s.roles.friction.thickness :=
    (sameFigures_of_bareRoles (by rw [← backbone_roles, sampled_backbone, backbone_roles])).thickness
  obtain ⟨habsent, hthickness⟩ := formThickness_figures (sampled s)
  rw [(measure_figures s).thicknessAbsent, (measure_figures s).thickness, measureRole_friction ((sampled_role s).trans h),
    habsent, hthickness, hbefore, (sampled_captureUnit s).1, sampled_items]
  exact ⟨rfl, rfl⟩

/-- A temperature record takes the filtered value of channel 1, whatever the role's figures did to its value before (R185). -/
theorem measure_temperature {s : State} {i : Fin 12} {r : WearRecord} (h : s.wear.slots[i] = some r)
    (hk : r.kind = .coolantTemp ∨ r.kind = .packTemp ∨ r.kind = .motorTemp) :
    ∃ u, (measure s).wear.slots[i] = some u ∧ u.kind = r.kind ∧ u.value = s.filtered 1 := by
  have hkind : ((backbone (measureRole (sampled s))).readings i).map Prod.fst = some r.kind := by
    rw [← linkAndKinds_kind, measureRole_linkAndKinds, sampled_backbone, linkAndKinds_kind, backbone_readings, h]
    rfl
  obtain ⟨⟨k, x⟩, hread, rfl⟩ := Option.map_eq_some_iff.mp hkind
  have hfiltered : (measureRole (sampled s)).filtered 1 = s.filtered 1 := by
    rw [← sampled_filtered s 1]
    simp only [State.filtered, measureRole_frame]
  have hafter : ((measure s).wear.slots[i]).map kindAndValue = some (r.kind, s.filtered 1) := by
    rw [← backbone_readings, measure_backbone, measureWear_temperature hk hread, hfiltered]
  obtain ⟨u, hu, hpair⟩ := Option.map_eq_some_iff.mp hafter
  exact ⟨u, hu, congrArg Prod.fst hpair, congrArg Prod.snd hpair⟩

/-! ## The statement -/

/-- Settles O35: the captures and monitors as they are sampled, the role's figures and the readings as they are formed from them, and the frame of the event. -/
theorem measurementEventHandsOnItsFigures : Obligations.MeasurementEventHandsOnItsFigures := by
  intro s
  obtain ⟨hpins, hitems, hround, hpeers, hshare, hport, hpending⟩ := measure_frame s
  have hcapture : ∀ n, (measure s).capture.get n = captureAfter s n := fun n => by rw [measure_capture, sampled_capture]
  obtain ⟨hdemod, hmicros⟩ := sampled_captureUnit s
  rw [← measure_capture] at hdemod hmicros
  have hmonitor : ∀ m : Fin 2, (measure s).wheel.monitors[m] = monitorAfter s m := fun m => by
    rw [measure_wheel]; exact sampled_monitors s m
  have hchannels : (measure s).wheel.channels = s.wheel.channels := by rw [measure_wheel]; exact sampled_channels s
  refine ⟨measure s, rfl, fun n hmode => ?evaluated, fun n hmode => ?demodulate, hdemod, hmicros, fun m c hchannel => ?judged,
    fun m hchannel => ?idle, hchannels, by rw [measure_wheel], by rw [measure_wheel], hitems, hpins, hround, hpeers, hshare,
    measure_memory s, measure_linkState s, hport, hpending, measure_demand, measure_genset, measure_traction, measure_friction,
    fun i r => measure_temperature⟩
  case evaluated =>
    rw [hcapture, captureAfter, if_neg hmode]
    refine ⟨rfl, rfl, rfl, rfl, fun x => evaluated_reference, evaluated_empty, fun hov => evaluatedSpeed_kept (.inl hov),
      fun x r hov hone href => ?_, fun x r z hov _ hlast href => evaluatedSpeed_since_reference hov hlast href,
      fun x hone href => evaluatedSpeed_kept (.inr (.inr ⟨⟨x, hone⟩, href⟩)),
      fun x z hov hlen hhead hlast href => evaluatedSpeed_since_oldest hov hlen hhead hlast href⟩
    have hspeed := evaluatedSpeed_since_reference (k := s.items.capture n) hov (by rw [hone]; rfl) href
    rwa [hone, List.length_singleton, Nat.one_mul] at hspeed
  case demodulate => rw [hcapture, captureAfter, if_pos hmode]
  case judged =>
    rw [hmonitor, monitorAfter, hchannel]
    exact judgeMonitor_eq _ _ _
  case idle => rw [hmonitor, monitorAfter, hchannel]

end Sys2Proof.Machine
end
